-- ==== Sys2Proof/Word.lean ====
section
/-! DEFINITION. The word types of the PA716: bytes of the link, 32-bit second labels, the 48-bit uptime. -/

namespace Sys2Proof

/-- One byte of the link (07 R142). -/
abbrev Byte := BitVec 8

/-- A second label, 0 to 4,294,967,295; label arithmetic is modulo 2^32 (01 R13). -/
abbrev SecondLabel := BitVec 32

/-- The uptime counter's count of microseconds, modulo 2^48 (01 R2). -/
abbrev Uptime := BitVec 48

end Sys2Proof
end

