-- ==== Sys2Proof/Config.lean ====
section
/-! DEFINITION. What the implementation fixes: capacities, and the values the spec leaves open (opaque, so that nothing
can be proved of which value they have). -/

namespace Sys2Proof

/-- The PPS window of the last rollover: `opened` while no edge has been accepted for it, `matched` once one has (01 R5,
R6), `missed` once its miss has been counted (01 R7). -/
inductive PpsWindow where
  | opened
  | matched
  | missed
  deriving DecidableEq, Repr, Inhabited

namespace Config

/-- FREE VALUE (log 7): what a phase step with Δ at or above 0 leaves of the window of the second it restarts. 01 R9
makes c 0 and keeps the label; no rule says whether that second's window then counts as matched, missed or open. -/
opaque lateStepWindow : Nat → PpsWindow

/-- FREE CONSTANT (log 8): whether a message passed over under 07 R160 is counted into the discard count as soon as its
header is known to be good (true), or when it ends, by its last byte or by truncation (false). -/
opaque discardAtHeader : Bool

/-- FREE VALUE (log 9): whether a REFCLK cycle passes before the Frame Checker goes on with the frame in hand. The spec gives
the work on a frame no duration (02 R23, R40). -/
opaque frameRests : Nat → Bool

/-- Streams (00_scope, capacities). -/
abbrev streams : Nat := 256
/-- Ring slots (05 R94). -/
abbrev slots : Nat := 128
/-- Cells of the pool (05 R98). -/
abbrev cells : Nat := 8192
/-- Entries of the inbound queue (07 R150). -/
abbrev inbound : Nat := 32
/-- The longest payload the inbound queue takes (07 R146). -/
abbrev payloadLimit : Nat := 480
/-- Ordinary places of the reply queue (07 R154). -/
abbrev replies : Nat := 8
/-- Notice records (09 R187). -/
abbrev notices : Nat := 32
/-- Late-cell entries (06 R134). -/
abbrev lateCells : Nat := 16
/-- Where every 32-bit counter stops (09 R196). -/
abbrev counterTop : Nat := 4294967295
/-- Where the discard count stops (07 R160). -/
abbrev discardTop : Nat := 65535
/-- The nominal second N_nom in REFCLK counts (01 R1). -/
abbrev nNom : Nat := 50000000
/-- The shortest second length (01 R1). -/
abbrev nMin : Nat := 49990000
/-- The longest second length (01 R1). -/
abbrev nMax : Nat := 50010000
/-- Where the count before lock and the candidate interval stop (01 R3, R8). -/
abbrev countStop : Nat := 50010001
/-- Nanoseconds in one second of local time (01 R1). -/
abbrev second : Nat := 1000000000
/-- REFCLK cycles for one byte on the line: ten bit times of four cycles (07 R142). -/
abbrev byteCycles : Nat := 40
/-- The receive gap in microseconds (07 R148). -/
abbrev receiveGap : Nat := 2000

end Config

end Sys2Proof
end

