-- ==== Sys2Proof/Syntax.lean ====
section
/-! DEFINITION. The commands: one constructor per row of spec/opcode_table.json. An outside event carries what the pins
bring; every other command acts on what the state holds (a request's fields are the payload bytes at the head of the
inbound queue, 07 R150, 08 R161, 10 R204). -/

namespace Sys2Proof

/-- The two network paths of a stream (03 3.5). -/
inductive Path where
  | a
  | b
  deriving DecidableEq, Repr, Inhabited

/-- The part's steps. -/
inductive Instr where
  /-- nRST low, then its rising edge with these strap levels (07 R158, 01 R22). -/
  | pinReset (nomf ppspol outr2 outr1 outr0 : Bool)
  /-- Start-up after pin reset ends (07 R158, 09 R192). -/
  | startupEnd
  /-- A transition of PPS, rising or falling (01 R3). -/
  | ppsEdge (rising : Bool)
  /-- The REFCLK cycle on which c reaches N_sec (01 R5). -/
  | secondRollover
  /-- c reaches w + 1 with the window unmatched (01 R7). -/
  | ppsMissed
  /-- Local time has passed an output instant (01 R17). -/
  | outputGridTick
  /-- Local time has reached an OPEN slot's deadline (05 R104). -/
  | deadlineArrival
  /-- A path of a stream reaches its silence limit (03 R59). -/
  | silenceExpiry (stream : Nat) (path : Path)
  /-- A stretch of the line LRXD, one sample for each rising edge of LRXC (07 R142, R145 to R147). -/
  | receiveMessage (line : List Bool)
  /-- The receive gap has passed part-way through a message (07 R148). -/
  | truncated
  /-- The Frame Checker takes the FIELD message at the head of the inbound queue (02 R29). -/
  | fieldFrame
  /-- The Request Handler answers a length note (07 R149). -/
  | lengthNoteReply
  /-- A REQUEST of unknown kind (08 R162). -/
  | badKind
  | identify
  | setIdentity
  | configure
  | timePolicy
  | timeLabel
  | leapSchedule
  | timeQuery
  | streamDefine
  | streamEnable
  | streamDisable
  | streamQuery
  | alignStart
  | alignStop
  | bufferQuery
  | softReset
  /-- The arbiter starts the oldest reply (07 R154). -/
  | replyStart
  /-- The last byte of a REPLY has left (07 R155). -/
  | replyEnd
  | noticeStart
  | noticeEnd
  | flowStart
  | flowEnd
  /-- The arbiter starts the SET and the Set Emitter fixes it (06 R122). -/
  | setStart
  /-- The last byte of a SET has left (06 R131). -/
  | setEmissionEnd
  | lateStart
  | lateEnd
  | hrdyFall
  | hrdyRise
  /-- A REQUEST with an empty payload (08 R162). -/
  | emptyPayloadRequest
  deriving DecidableEq, Repr

end Sys2Proof
end

