-- ==== Sys2Proof/Decode.lean ====
section
/-! DEFINITION. The part is a block and has no instruction decoder: no row of spec/opcode_table.json gives a bit. -/

namespace Sys2Proof

/-- The command a word spells by the table's bits. No row gives bits, so no word spells one. -/
def decodeTableWord (_nbits _w : Nat) : Option Instr := none

end Sys2Proof
end

