-- ==== Sys2Proof/Machine/State.lean ====
section
/-! DEFINITION. Everything the spec gives the PA716 to hold, as plain data, and the condition right after pin reset.
One structure per block, as in the block diagram of 00_scope. -/

namespace Sys2Proof.Machine

/-- No command of the part ends in a fault: every failure is a counted disposition, a refusal reply or a notice. -/
inductive Fault where
  deriving DecidableEq, Repr

/-- The only refusal: a command without a meaning. -/
inductive Refusal where
  /-- Raised by `exec` for a command that has no meaning yet; safe, since the machine stops. No arm raises it. -/
  | notModelled (mnemonic : String)
  deriving DecidableEq, Repr

/-! ### Seconds, labels and leap records (01) -/

/-- A second: its label and its inserted flag (01 R13). -/
structure Second where
  label : SecondLabel
  inserted : Bool
  deriving DecidableEq, Repr, Inhabited

/-- An output label (S, inserted, i) (00_scope, labels; 01 R16). -/
structure Label where
  second : Second
  index : Nat
  deriving DecidableEq, Repr, Inhabited

/-- A point of time: a second and nanoseconds into it (04 4.3). -/
structure Instant where
  second : Second
  ns : Nat
  deriving DecidableEq, Repr, Inhabited

inductive LeapDir where
  | ins
  | del
  deriving DecidableEq, Repr

/-- A leap event: a second and a direction (01 R13). -/
structure LeapEvent where
  second : SecondLabel
  dir : LeapDir
  deriving DecidableEq, Repr

/-- The two leap records (01 R13). -/
structure Leaps where
  pending : Option LeapEvent
  last : Option LeapEvent
  deriving DecidableEq, Repr

inductive TimeState where
  | unset
  | acquiring
  | locked
  | holdover
  | free
  deriving DecidableEq, Repr

/-- The grade of local time; `none` in UNSET and ACQUIRING (01 R11, 10 R201). -/
inductive Grade where
  | none
  | a
  | b
  | c
  | d
  deriving DecidableEq, Repr

/-- The five sticky time flags (01 R21). -/
structure TimeFlags where
  ppsRejected : Bool
  ppsMissed : Bool
  stepped : Bool
  leapApplied : Bool
  lengthClamped : Bool
  deriving DecidableEq, Repr

/-- The time policy and its written mark (01 R20). -/
structure TimePolicy where
  limitCode : Nat
  w : Nat
  missLimit : Nat
  written : Bool
  deriving DecidableEq, Repr

/-- The Time Base Unit (01). `usPhase`, `window` and `windowW` are implied by R2, R5 to R7 and R20 (log 6). `tickWaits`: a
changed Fout has made the newest ticked label absent and local time has not changed since (R18; log 18). -/
structure Tbu where
  c : Nat
  nSec : Nat
  tstate : TimeState
  second : Second
  pendingLabel : Option Second
  prevEdge : Bool
  missCount : Nat
  stepCount : Nat
  candInterval : Nat
  holdoverAge : Nat
  lastError : Int
  leaps : Leaps
  newestTick : Option Label
  tickWaits : Bool
  uptime : Uptime
  usPhase : Nat
  window : PpsWindow
  windowW : Nat
  flags : TimeFlags
  policy : TimePolicy
  deriving DecidableEq, Repr

/-! ### Cells and stream records (03, 05) -/

structure Phasor where
  magnitude : BitVec 32
  angle : BitVec 16
  deriving DecidableEq, Repr

/-- The channel data of a measurement, in the frame's order (02 R26). -/
structure Channels where
  phasors : List Phasor
  freqDev : BitVec 16
  rocof : BitVec 16
  analogs : List (BitVec 32)
  digitals : List (BitVec 16)
  deriving DecidableEq, Repr

/-- A cell (02 R39, 05 5.5). Its P, A and D are the lengths of its channel lists. -/
structure Cell where
  stream : Nat
  source : Nat
  path : Path
  rotated : Bool
  dataInvalid : Bool
  trigger : Bool
  srcUnlocked : Bool
  faultedSource : Bool
  expected : Bool
  uncertainty : Nat
  offset : Int
  arrival : Uptime
  data : Channels
  deriving DecidableEq, Repr

inductive StreamState where
  | disabled
  | learning
  | waiting
  | locked
  | faulted
  | silent
  deriving DecidableEq, Repr

/-- What two layouts are compared by (03 R51). -/
structure Layout where
  rateCode : Nat
  timeBase : Nat
  phasors : Nat
  analogs : Nat
  digitals : Nat
  deriving DecidableEq, Repr

inductive Origin where
  | pinned
  | learned
  deriving DecidableEq, Repr

/-- A stream's layout with its origin (03 R51). -/
structure StreamLayout where
  shape : Layout
  origin : Origin
  deriving DecidableEq, Repr

inductive Fill where
  | none
  | hold
  deriving DecidableEq, Repr

/-- The newest accepted instant: a stream-grid label with its grid point in ns (03 R67, 04 R75). -/
structure Newest where
  second : Second
  index : Nat
  grid : Nat
  deriving DecidableEq, Repr

/-- A path record (03 R57 to R60). -/
structure PathRec where
  up : Bool
  last : Option Uptime
  lead : Nat
  dup : Nat
  deriving DecidableEq, Repr

/-- The hold value and its age (03 R65, R66). -/
structure HoldValue where
  cell : Cell
  age : Nat
  deriving DecidableEq, Repr

/-- The per-stream counters, in the order of the table of 03 R68. -/
structure StreamCounters where
  good : Nat
  noLayout : Nat
  malformed : Nat
  timeFormat : Nat
  badLeap : Nat
  offGrid : Nat
  regression : Nat
  future : Nat
  decimated : Nat
  standbyDiscard : Nat
  placed : Nat
  duplicate : Nat
  ahead : Nat
  poolFull : Nat
  preStart : Nat
  late : Nat
  lateDropped : Nat
  present : Nat
  held : Nat
  absent : Nat
  nominalMismatch : Nat
  layoutConfirm : Nat
  layoutMismatch : Nat
  layoutLearned : Nat
  faultEntries : Nat
  silentEntries : Nat
  deriving DecidableEq, Repr

/-- One stream record (03 3.1). -/
structure StreamRec where
  source : Nat
  state : StreamState
  layout : Option StreamLayout
  rotate : Bool
  fill : Fill
  holdLimit : Nat
  errThreshold : Nat
  silenceCount : Nat
  errCount : Nat
  goodCount : Nat
  seqFlag : Bool
  newest : Option Newest
  pathA : PathRec
  pathB : PathRec
  lhat : Option Nat
  seedMark : Bool
  latencyMax : Nat
  hold : Option HoldValue
  mismatchArmed : Bool
  counters : StreamCounters
  deriving DecidableEq, Repr

/-- Why a stream changed its state (03 R50). -/
inductive StreamCause where
  | request
  | goodFrame
  | errors
  | recovery
  | silence
  | layout
  deriving DecidableEq, Repr

/-! ### Frame Checker (02) -/

/-- A frame's reading of the uptime counter and of local time, `none` when time is not set (02 R23). -/
structure Reading where
  uptime : Uptime
  localTime : Option Instant
  deriving DecidableEq, Repr

/-- A DATA frame whose stream has a layout, as step 5 found it: its path, its bytes, its stream and layout, and its
reading (02 R23, R32). -/
structure FrameInHand where
  path : Path
  bytes : List Byte
  stream : Nat
  layout : Layout
  reading : Reading
  deriving DecidableEq, Repr

/-- A snapped frame: its instant as a stream-grid label with its grid point, and its offset Δt (04 R73 to R75). -/
structure Snapped where
  second : Second
  index : Nat
  grid : Nat
  offset : Int
  deriving DecidableEq, Repr

/-- How far the work on the frame in hand has come: taken with its reading, before step 1; or good, with step 11 made and
steps 12 to 14 to come (02 R23, R29, R40; log 9). -/
inductive FrameWork where
  | taken (r : Reading)
  | good (h : FrameInHand) (x : Snapped)
  deriving DecidableEq, Repr

/-- The four part-wide counters, the arm mark of the UNKNOWN_SOURCE notice and the frame in hand (02 R41). The frame's
bytes stay at the head of the inbound queue until its disposition (07 R150). -/
structure Fck where
  malformed : Nat
  checkError : Nat
  badPath : Nat
  unknownSource : Nat
  armed : Bool
  inHand : Option FrameWork
  deriving DecidableEq, Repr

/-! ### Alignment Buffer (05) -/

inductive RunState where
  | standby
  | running
  | draining
  deriving DecidableEq, Repr

inductive OpenCause where
  | tick
  | frame
  deriving DecidableEq, Repr

inductive SealCause where
  | complete
  | deadline
  | horizon
  | pool
  | drain
  deriving DecidableEq, Repr

/-- A cell of the pool in use: its number and its contents (05 R98; log 14). -/
structure HeldCell where
  number : Nat
  cell : Cell
  deriving DecidableEq, Repr

/-- What an OPEN or SEALED slot holds (05 5.3). `window` is W in µs (04 R86, R87), `present` is in ascending stream
number. -/
structure SlotData where
  label : Label
  openCause : OpenCause
  grade : Grade
  window : Nat
  deadline : Instant
  expected : List Nat
  present : List HeldCell
  expectedPresent : Nat
  deriving DecidableEq, Repr

/-- A ring slot: FREE, OPEN or SEALED (05 R95). -/
inductive Slot where
  | vacant
  | opened (d : SlotData)
  | sealed (cause : SealCause) (d : SlotData)
  deriving DecidableEq, Repr

/-- The Alignment Buffer (05). `base` is B, `slots` is indexed by ring position, `free` is the free list. -/
structure Alb where
  runState : RunState
  start : Option Label
  base : Option Label
  basePos : Nat
  frontier : Option Label
  slots : List Slot
  free : List Nat
  lowWater : Nat
  pressureArmed : Bool
  openedTick : Nat
  openedFrame : Nat
  sealedComplete : Nat
  sealedDeadline : Nat
  sealedHorizon : Nat
  sealedPool : Nat
  sealedDrain : Nat
  drainSkipped : Nat
  deriving DecidableEq, Repr

/-! ### Set Emitter (06) -/

inductive Cursor where
  | idle
  | offered (pos : Nat) (label : Label)
  | sending (pos : Nat) (label : Label)
  deriving DecidableEq, Repr

/-- The status of an entry with what it carries (06 R125 to R128). -/
inductive EntryBody where
  | present (cell : Cell)
  | held (cell : Cell) (age : Nat)
  | absent
  deriving DecidableEq, Repr

structure SetEntry where
  stream : Nat
  expected : Bool
  body : EntryBody
  deriving DecidableEq, Repr

/-- The emission record: the SET as its fixing event left it (06 R122, R123; log 17). -/
structure SetRecord where
  identity : Nat
  label : Label
  rateCode : Nat
  openCause : OpenCause
  sealCause : SealCause
  grade : Grade
  expectedCount : Nat
  expectedPresent : Nat
  cellCount : Nat
  heldCount : Nat
  entries : List SetEntry
  deriving DecidableEq, Repr

inductive LateKind where
  | passed
  | sealed
  deriving DecidableEq, Repr

/-- An entry of the late-cell queue (06 R134). -/
structure LateEntry where
  label : Label
  rateCode : Nat
  kind : LateKind
  cell : Cell
  deriving DecidableEq, Repr

structure Sem where
  cursor : Cursor
  record : Option SetRecord
  late : List LateEntry
  setsSent : Nat
  lateSent : Nat
  deriving DecidableEq, Repr

/-! ### Notice Queue (09) -/

inductive ResetCause where
  | pin
  | soft
  deriving DecidableEq, Repr

/-- A notice kind with the fields the table of 09 R190 fills. -/
inductive NoticeEvent where
  | timeState (old new : TimeState) (value : SecondLabel)
  | timeStep (delta : Int)
  | leap (dir : LeapDir) (second : SecondLabel)
  | streamState (stream : Nat) (old new : StreamState) (cause : StreamCause)
  | pathState (stream : Nat) (oldUp newUp : Bool) (path : Path)
  | layoutChange (stream rateCode : Nat)
  | layoutMismatch (stream rateCode : Nat)
  | unknownSource (source : Nat)
  | linkOverrun (cls : Byte)
  | sealPressure (stream : Nat) (cause : SealCause)
  | resetDone (cause : ResetCause) (discarded : Nat)
  deriving DecidableEq, Repr

/-- A notice record (09 R186). `lost` is filled at the start of its message. -/
structure Notice where
  event : NoticeEvent
  uptime : Uptime
  lost : Nat
  deriving DecidableEq, Repr

structure Ntq where
  records : List Notice
  lost : Nat
  deriving DecidableEq, Repr

/-! ### Link Interface (07) -/

inductive Gate where
  | closed
  | opened
  | resetting
  deriving DecidableEq, Repr

/-- The bit receiver of 07 R142: waiting for a low bit after a high one, or collecting data bits, oldest first. -/
inductive RxLine where
  | wait (sawHigh : Bool)
  | data (bits : List Bool)
  deriving DecidableEq, Repr

/-- The receiver mode with what it has in hand (07 R145 to R149). `left` counts the bytes still to come, the check word's
two included; `note` is the tag of a REQUEST skipped as too long. -/
inductive RxMode where
  | hunt
  | header (got : List Byte)
  | payload (cls tag : Byte) (left : Nat) (got : List Byte)
  | skip (left : Nat) (note : Option Byte)
  deriving DecidableEq, Repr

/-- An entry of the inbound queue (07 R149, R150). -/
inductive Inbound where
  | request (tag : Byte) (payload : List Byte)
  | field (tag : Byte) (payload : List Byte)
  | lengthNote (tag : Byte)
  deriving DecidableEq, Repr

/-- A reply in the reply queue: in the place kept for the deferred reply, or in an ordinary one (07 R154). -/
structure Reply where
  kept : Bool
  tag : Byte
  payload : List Byte
  deriving DecidableEq, Repr

/-- The classes the part sends, highest first (07 R155). -/
inductive OutClass where
  | reply
  | notice
  | flow
  | set
  | late
  deriving DecidableEq, Repr

/-- A message in transmission (07 R155, R156): `out` bytes have begun, `left` REFCLK cycles of the last of them are to
go, `credit` is the credit byte once it has gone out (07 R152). With `out` 0 its first bit waits for a falling edge of
LTXC. -/
structure TxMessage where
  cls : OutClass
  tag : Byte
  payload : List Byte
  credit : Option Nat
  out : Nat
  left : Nat
  paused : Bool
  deriving DecidableEq, Repr

/-- The Link Interface (07). `ltxcPhase` counts REFCLK cycles since the last falling edge of LTXC, 0 to 3 (R142; log 35). -/
structure Lki where
  gate : Gate
  rxMode : RxMode
  rxUnderReset : Bool
  rxLine : RxLine
  lastByte : Uptime
  inbound : List Inbound
  replies : List Reply
  flowPending : Bool
  creditLast : Nat
  tx : Option TxMessage
  ltxcPhase : Nat
  overrunArmed : Bool
  discard : Nat
  headerError : Nat
  unknownClass : Nat
  tooLong : Nat
  truncated : Nat
  checkError : Nat
  overrun : Nat
  accepted : Nat
  deriving DecidableEq, Repr

/-! ### Request Handler (08) -/

inductive DeadlineMode where
  | fixed
  | adaptive
  deriving DecidableEq, Repr

inductive LatePolicy where
  | discard
  | forward
  deriving DecidableEq, Repr

/-- The nine parameters (08 R167). -/
structure Configuration where
  rateCode : Nat
  mode : DeadlineMode
  wFixed : Nat
  wMin : Nat
  wMax : Nat
  margin : Nat
  tSnap : Nat
  tFuture : Nat
  late : LatePolicy
  deriving DecidableEq, Repr

structure Rqh where
  config : Configuration
  identity : Nat
  idWritten : Bool
  deferred : Option Byte
  deriving DecidableEq, Repr

/-! ### Pins and the whole part -/

/-- The straps as latched at the rising edge of nRST (00_scope, 01 R22). -/
structure Straps where
  nomf : Bool
  ppspol : Bool
  outr : Nat
  deriving DecidableEq, Repr

/-- The levels of the input pins HRDY and PPS. -/
structure Pins where
  hrdy : Bool
  pps : Bool
  deriving DecidableEq, Repr

/-- The PA716. `pending` is the queue of commands, `fresh` counts the free values used (log 27). -/
structure State where
  pending : List Instr
  straps : Straps
  pins : Pins
  tbu : Tbu
  fck : Fck
  streams : List StreamRec
  sourceMap : List (Nat × Nat)
  alb : Alb
  sem : Sem
  ntq : Ntq
  lki : Lki
  rqh : Rqh
  fresh : Nat
  deriving DecidableEq, Repr

/-! ### After pin reset -/

/-- 01 R22. -/
def Tbu.reset : Tbu where
  c := 0
  nSec := 50000000
  tstate := .unset
  second := ⟨0, false⟩
  pendingLabel := none
  prevEdge := false
  missCount := 0
  stepCount := 0
  candInterval := 0
  holdoverAge := 0
  lastError := 0
  leaps := ⟨none, none⟩
  newestTick := none
  tickWaits := false
  uptime := 0
  usPhase := 0
  window := .opened
  windowW := 100
  flags := ⟨false, false, false, false, false⟩
  policy := ⟨2, 100, 2, false⟩

/-- 02 R41. -/
def Fck.reset : Fck := ⟨0, 0, 0, 0, true, none⟩

/-- 03 R70. -/
def StreamCounters.zero : StreamCounters :=
  ⟨0, 0, 0, 0, 0, 0, 0, 0, 0, 0, 0, 0, 0, 0, 0, 0, 0, 0, 0, 0, 0, 0, 0, 0, 0, 0⟩

/-- 03 R70. -/
def PathRec.reset : PathRec := ⟨false, none, 0, 0⟩

/-- 03 R70. -/
def StreamRec.reset : StreamRec where
  source := 0
  state := .disabled
  layout := none
  rotate := false
  fill := .none
  holdLimit := 0
  errThreshold := 1
  silenceCount := 1
  errCount := 0
  goodCount := 0
  seqFlag := false
  newest := none
  pathA := .reset
  pathB := .reset
  lhat := none
  seedMark := true
  latencyMax := 0
  hold := none
  mismatchArmed := true
  counters := .zero

/-- 05 R119. -/
def Alb.reset : Alb where
  runState := .standby
  start := none
  base := none
  basePos := 0
  frontier := none
  slots := List.replicate Config.slots .vacant
  free := List.range Config.cells
  lowWater := Config.cells
  pressureArmed := true
  openedTick := 0
  openedFrame := 0
  sealedComplete := 0
  sealedDeadline := 0
  sealedHorizon := 0
  sealedPool := 0
  sealedDrain := 0
  drainSkipped := 0

/-- 06 R140. -/
def Sem.reset : Sem := ⟨.idle, none, [], 0, 0⟩

/-- 09 R194. -/
def Ntq.reset : Ntq := ⟨[], 0⟩

/-- 07 R158; DESIGN CHOICE for the phase of LTXC (log 35). -/
def Lki.reset : Lki where
  gate := .closed
  rxMode := .hunt
  rxUnderReset := false
  rxLine := .wait false
  lastByte := 0
  inbound := []
  replies := []
  flowPending := false
  creditLast := 0
  tx := none
  ltxcPhase := 0
  overrunArmed := true
  discard := 0
  headerError := 0
  unknownClass := 0
  tooLong := 0
  truncated := 0
  checkError := 0
  overrun := 0
  accepted := 0

/-- 08 R167, with OUTR 0, whose output rate code is 3. -/
def Configuration.reset : Configuration := ⟨3, .adaptive, 200, 20, 500, 10, 100, 1000, .discard⟩

/-- 08, the table of the chapter's head. -/
def Rqh.reset : Rqh := ⟨.reset, 0, false, none⟩

/-- The part right after pin reset, its straps and input pins low (log 5), with no command waiting. -/
def State.reset : State where
  pending := []
  straps := ⟨false, false, 0⟩
  pins := ⟨false, false⟩
  tbu := .reset
  fck := .reset
  streams := List.replicate Config.streams .reset
  sourceMap := []
  alb := .reset
  sem := .reset
  ntq := .reset
  lki := .reset
  rqh := .reset
  fresh := 0

end Sys2Proof.Machine
end

