-- ==== Sys2Proof/Machine/Arith.lean ====
section
/-! DEFINITION. The exact integer arithmetic: check words, rates and grids, succession of seconds, distances, the
normalization arithmetic of 04. -/

namespace Sys2Proof.Machine

/-! ### Counters and check words -/

/-- A 32-bit saturating increase (09 R196). -/
def satInc (n : Nat) : Nat := min (n + 1) Config.counterTop

/-- `n` limited to `lo..hi`. -/
def clampNat (lo hi n : Nat) : Nat := max lo (min hi n)

/-- The bits of a byte, most significant first (02 R28). -/
def bitsMsbFirst (b : Byte) : List Bool :=
  [b.getLsbD 7, b.getLsbD 6, b.getLsbD 5, b.getLsbD 4, b.getLsbD 3, b.getLsbD 2, b.getLsbD 1, b.getLsbD 0]

/-- One bit into a check register that shifts toward its most significant end. -/
def crcBit {w : Nat} (poly r : BitVec w) (b : Bool) : BitVec w :=
  if r.msb != b then (r <<< 1) ^^^ poly else r <<< 1

/-- A check register after a byte. -/
def crcByte {w : Nat} (poly r : BitVec w) (b : Byte) : BitVec w := (bitsMsbFirst b).foldl (crcBit poly) r

/-- The 16-bit check of 02 R28: x^16 + x^12 + x^5 + 1, from all ones. -/
def crc16 (bytes : List Byte) : BitVec 16 := bytes.foldl (crcByte 0x1021) 0xFFFF

/-- The header check of 07 R143: x^8 + x^2 + x + 1, from 0. -/
def crc8 (bytes : List Byte) : BitVec 8 := bytes.foldl (crcByte 0x07) 0

/-! ### Rates and grids (01 R16) -/

/-- The rate of a rate code, in frames per second (01 R16). -/
def rateOf (code : Nat) : Nat := [1, 2, 5, 10, 12, 15, 20, 25, 30, 50, 60, 100, 120].getD code 1

/-- The instant of grid index `i` at rate `f`, in ns: i·10⁹/f rounded half up (01 R16, 04 R73). -/
def gridPoint (f i : Nat) : Nat := (2 * i * Config.second + f) / (2 * f)

/-- The index of the latest grid instant at or before `ns` in a second (01 R17): the greatest `i` with
`gridPoint f i ≤ ns`. -/
def latestIndex (f ns : Nat) : Nat := (f * (2 * ns + 1) - 1) / (2 * Config.second)

/-- Output index `i` is a grid instant of a stream at rate `fs` (04 R82). -/
def onGrid (fout fs i : Nat) : Bool := i * fs % fout == 0

/-! ### Succession (01 R13) -/

/-- Either record is an INSERT at `x`. -/
def Leaps.insertAt (r : Leaps) (x : SecondLabel) : Bool :=
  r.pending == some ⟨x, .ins⟩ || r.last == some ⟨x, .ins⟩

/-- Either record is a DELETE at `x`. -/
def Leaps.deleteAt (r : Leaps) (x : SecondLabel) : Bool :=
  r.pending == some ⟨x, .del⟩ || r.last == some ⟨x, .del⟩

/-- The successor of a second (01 R13). -/
def Leaps.succ (r : Leaps) (x : Second) : Second :=
  if x.inserted then ⟨x.label + 1, false⟩
  else if r.insertAt x.label then ⟨x.label, true⟩
  else if r.deleteAt (x.label + 1) then ⟨x.label + 2, false⟩
  else ⟨x.label + 1, false⟩

/-- The events of the records, an event in both counted once. -/
def Leaps.events (r : Leaps) : List LeapEvent :=
  if r.pending = r.last then r.pending.toList else r.pending.toList ++ r.last.toList

/-- The succession steps from (start, clear) to a second (01 R13): the label distance, one more for each inserted second
passed, one less for each deleted second passed (log 11). DESIGN CHOICE (log 37): 01 R13 gives no number of steps to a
second that succession never reaches, as (S, clear) under the DELETE at S that 01 R15 measures; the model gives the number
its label has, so that second is 2 from (S - 2, clear). -/
def Leaps.stepsFrom (r : Leaps) (start : SecondLabel) (x : Second) : Nat :=
  let k := (x.label - start).toNat
  let inserted := r.events.countP fun e => e.dir == .ins && decide ((e.second - start).toNat < k)
  let deleted := r.events.countP fun e =>
    e.dir == .del && decide (0 < (e.second - start).toNat) && decide ((e.second - start).toNat < k)
  k + inserted - deleted + x.inserted.toNat

/-- The distance from one second to another: succession steps counted forward (01 R13). -/
def Leaps.dist (r : Leaps) (x y : Second) : Nat :=
  if x = y then 0
  else if x.inserted then 1 + r.stepsFrom (x.label + 1) y
  else r.stepsFrom x.label y

/-- The second is later than the first: its distance is 1 to 2,147,483,647 (01 R13). -/
def Leaps.later (r : Leaps) (x y : Second) : Bool :=
  decide (0 < r.dist x y) && decide (r.dist x y ≤ 2147483647)

/-- A second that does not occur is measured as the next that does (04 R76). DESIGN CHOICE (log 33): 04 R76 says both that
(X, set) with no INSERT at X is taken as (X + 1, clear) and that it is measured as the next second that occurs; where a
record is a DELETE at X + 1 these differ, and the model takes (X + 1, clear). -/
def Leaps.occurring (r : Leaps) (x : Second) : Second :=
  if x.inserted then (if r.insertAt x.label then x else ⟨x.label + 1, false⟩)
  else if r.deleteAt x.label then ⟨x.label + 1, false⟩
  else x

/-- The signed count of seconds D from one second to another (04 R76). -/
def Leaps.signedSeconds (r : Leaps) (x y : Second) : Int :=
  let x' := r.occurring x
  let y' := r.occurring y
  if x' = y' then 0
  else if r.later x' y' then (r.dist x' y' : Int)
  else -(r.dist y' x' : Int)

/-- The signed time difference from one instant to another in ns (04 R76). -/
def Leaps.diff (r : Leaps) (x y : Instant) : Int :=
  r.signedSeconds x.second y.second * (Config.second : Int) + (y.ns : Int) - (x.ns : Int)

/-- `n` successor seconds on. -/
def Leaps.succN (r : Leaps) : Nat → Second → Second
  | 0, x => x
  | n + 1, x => r.succN n (r.succ x)

/-- An instant advanced by `ns` along succession (04 R88). -/
def Leaps.advance (r : Leaps) (x : Instant) (ns : Nat) : Instant :=
  let t := x.ns + ns
  ⟨r.succN (t / Config.second) x.second, t % Config.second⟩

/-! ### Output labels -/

/-- The instant of an output label (04 R88). -/
def Label.instant (fout : Nat) (l : Label) : Instant := ⟨l.second, gridPoint fout l.index⟩

/-- The successor of an output label (01 R13). -/
def Leaps.labelSucc (r : Leaps) (fout : Nat) (l : Label) : Label :=
  if l.index + 1 < fout then ⟨l.second, l.index + 1⟩ else ⟨r.succ l.second, 0⟩

/-- `n` successor labels on. -/
def Leaps.labelAdd (r : Leaps) (fout : Nat) : Nat → Label → Label
  | 0, l => l
  | n + 1, l => r.labelAdd fout n (r.labelSucc fout l)

/-- One label is earlier than another (05 R94). -/
def Leaps.labelBefore (r : Leaps) (fout : Nat) (l m : Label) : Bool :=
  decide (0 < r.diff (l.instant fout) (m.instant fout))

/-- The distance in labels from `l` to `m`, for an `m` that is not earlier in the second of `l` (05 R94): successor steps
counted forward, Fout of them for each step of succession from one second to the other. -/
def Leaps.labelDist (r : Leaps) (fout : Nat) (l m : Label) : Int :=
  (r.dist l.second m.second : Int) * (fout : Int) + (m.index : Int) - (l.index : Int)

/-- A label is later than `l`: later in the same second, or in a later second of succession (01 R13, R17). -/
def Leaps.labelLater (r : Leaps) (l m : Label) : Bool :=
  if l.second = m.second then decide (l.index < m.index) else r.later l.second m.second

/-! ### The normalization arithmetic (04) -/

/-- The fraction in nanoseconds (04 R71). -/
def fractionNs (f tb : Nat) : Nat := (f * Config.second + tb / 2) / tb

/-- The stream-grid index nearest to `ns` (04 R72). -/
def snapIndex (ns fs : Nat) : Nat := (ns * fs + 500000000) / Config.second

/-- The snap of 04 R72 to R75, with the roll into index 0 of the successor second. -/
def snap (r : Leaps) (second : Second) (ns fs : Nat) : Snapped :=
  let j := snapIndex ns fs
  let offset := (ns : Int) - (gridPoint fs j : Int)
  if j = fs then ⟨r.succ second, 0, 0, offset⟩ else ⟨second, j, gridPoint fs j, offset⟩

def Snapped.instant (x : Snapped) : Instant := ⟨x.second, x.grid⟩

def Newest.instant (x : Newest) : Instant := ⟨x.second, x.grid⟩

/-- The signal frequency f in mHz (04 R83). −32,768 means not given. -/
def signalFrequency (nominal60 : Bool) (freqDev : BitVec 16) : Int :=
  (if nominal60 then 60000 else 50000) + (if freqDev = 0x8000#16 then 0 else freqDev.toInt)

/-- Rounded to the nearest whole number, an exact half away from zero. -/
def roundHalfAway (num den : Int) : Int :=
  if 0 ≤ num then (2 * num + den) / (2 * den) else -((2 * (-num) + den) / (2 * den))

/-- The rotation in angle units (04 R84). -/
def rotation (f offset : Int) : Int := roundHalfAway (f * offset * 65536) 1000000000000

/-- A phasor turned back by `rot` (04 R85). -/
def rotatePhasor (rot : Int) (p : Phasor) : Phasor := { p with angle := p.angle - BitVec.ofInt 16 rot }

/-- The latency sample in µs of a signed ns difference (04 R79). -/
def latencySample (diffNs : Int) : Nat := (max 0 (min 4000000 (diffNs / 1000))).toNat

/-- The filtered latency estimate (04 R80). -/
def filterLatency (lhat sample : Nat) : Nat := ((lhat : Int) + ((sample : Int) - (lhat : Int)) / 8).toNat

/-- The silence limit of a path in µs (03 R58). -/
def silenceLimit (q fs : Nat) : Nat := q * 1000000 / fs

/-- The forward difference of two uptimes (01 R2). -/
def elapsed (since now : Uptime) : Nat := (now - since).toNat

/-- The holdover limit in seconds (01 R20). -/
def holdoverLimit (code : Nat) : Nat := [64, 256, 1024, 4096].getD code 4096

/-- The output rate code of an OUTR strap value (08 R167). -/
def rateCodeOfOutr (outr : Nat) : Nat := [3, 7, 8, 9, 10, 11, 12, 0].getD outr 3

/-- The configuration's defaults for an OUTR value (08 R167). -/
def Configuration.defaults (outr : Nat) : Configuration :=
  { Configuration.reset with rateCode := rateCodeOfOutr outr }

/-- The output rate Fout (01 R16). -/
def Configuration.fout (g : Configuration) : Nat := rateOf g.rateCode

end Sys2Proof.Machine
end

