-- ==== Sys2Proof/Machine/Flags.lean ====
section
/-! DEFINITION. Flag bytes (10 R198, R206, R207) and the sticky time flags (01 R21). -/

namespace Sys2Proof.Machine

/-- A flag byte: the n-th flag of the list in bit n (10 R198). -/
def flagBits : List Bool → Nat
  | [] => 0
  | b :: bs => b.toNat + 2 * flagBits bs

/-- The sticky flags byte of TIME_QUERY (10 R206). -/
def TimeFlags.bits (f : TimeFlags) : Nat :=
  flagBits [f.ppsRejected, f.ppsMissed, f.stepped, f.leapApplied, f.lengthClamped]

/-- The flags as TIME_QUERY leaves them (01 R21). -/
def TimeFlags.clear : TimeFlags := ⟨false, false, false, false, false⟩

/-- The flags byte of a SET or LATE entry (10 R207). -/
def Cell.flagBits (x : Cell) : Nat :=
  Machine.flagBits [x.rotated, x.dataInvalid, x.trigger, x.srcUnlocked, x.faultedSource]

/-- The straps byte of IDENTIFY: NOMF, PPSPOL, and OUTR in bits 4 to 6 (10 R206). -/
def Straps.bits (s : Straps) : Nat := flagBits [s.nomf, s.ppspol] + 16 * s.outr

end Sys2Proof.Machine
end

