-- ==== Sys2Proof/Machine/Encode.lean ====
section
/-! DEFINITION. The byte forms of everything the part sends (10 R198 to R210). -/

namespace Sys2Proof.Machine

/-! ### Fields (10 R198) -/

/-- An unsigned field of `k` bytes, most significant byte first. -/
def be : Nat → Nat → List Byte
  | 0, _ => []
  | k + 1, n => BitVec.ofNat 8 (n / 256 ^ k) :: be k n

/-- A signed 32-bit field in two's complement. -/
def beS32 (i : Int) : List Byte := be 4 (BitVec.ofInt 32 i).toNat

/-- The SYNC byte (07 R143). -/
def syncByte : Byte := 0xD3

/-! ### Codes (10 R201) -/

def TimeState.code : TimeState → Nat
  | .unset => 0 | .acquiring => 1 | .locked => 2 | .holdover => 3 | .free => 4

def StreamState.code : StreamState → Nat
  | .disabled => 0 | .learning => 1 | .waiting => 2 | .locked => 3 | .faulted => 4 | .silent => 5

def Grade.code : Grade → Nat
  | .none => 0 | .a => 1 | .b => 2 | .c => 3 | .d => 4

def LeapDir.code : LeapDir → Nat
  | .ins => 1 | .del => 2

def pathCode : Path → Nat
  | .a => 0 | .b => 1

def StreamCause.code : StreamCause → Nat
  | .request => 0 | .goodFrame => 1 | .errors => 2 | .recovery => 3 | .silence => 4 | .layout => 5

def RunState.code : RunState → Nat
  | .standby => 0 | .running => 1 | .draining => 2

def Cursor.code : Cursor → Nat
  | .idle => 0 | .offered .. => 1 | .sending .. => 2

def OpenCause.code : OpenCause → Nat
  | .tick => 0 | .frame => 1

def SealCause.code : SealCause → Nat
  | .complete => 0 | .deadline => 1 | .horizon => 2 | .pool => 3 | .drain => 4

def LateKind.code : LateKind → Nat
  | .passed => 0 | .sealed => 1

def DeadlineMode.code : DeadlineMode → Nat
  | .fixed => 0 | .adaptive => 1

def LatePolicy.code : LatePolicy → Nat
  | .discard => 0 | .forward => 1

def Fill.code : Fill → Nat
  | .none => 0 | .hold => 1

def ResetCause.code : ResetCause → Nat
  | .pin => 0 | .soft => 1

def OutClass.code : OutClass → Byte
  | .reply => 0x81 | .set => 0x82 | .late => 0x83 | .notice => 0x84 | .flow => 0x85

/-- The reply statuses (08 R163, 10 R201). -/
inductive Status where
  | ok | badKind | badLength | badValue | wrongState | busy | alreadySet | duplicateSource | tooLate | aborted
  deriving DecidableEq, Repr

def Status.code : Status → Nat
  | .ok => 0 | .badKind => 1 | .badLength => 2 | .badValue => 3 | .wrongState => 4
  | .busy => 5 | .alreadySet => 6 | .duplicateSource => 7 | .tooLate => 8 | .aborted => 9

/-! ### Records (10 R199) -/

/-- An output label, six bytes. -/
def Label.bytes (l : Label) : List Byte :=
  be 4 l.second.label.toNat ++ be 1 l.second.inserted.toNat ++ be 1 l.index

/-- An optional label, seven bytes. -/
def optLabelBytes : Option Label → List Byte
  | none => be 7 0
  | some l => be 1 1 ++ l.bytes

/-- A leap record, five bytes. -/
def leapBytes : Option LeapEvent → List Byte
  | none => be 5 0
  | some e => be 1 e.dir.code ++ be 4 e.second.toNat

/-- A layout record, nine bytes (10 R199). The fields that R199 names fill eight of them; DEDUCED (log 32): the ninth comes
last and is a reserved byte, which 10 R198 sends as 0x00. -/
def layoutBytes : Option StreamLayout → List Byte
  | none => be 9 0
  | some l =>
    be 1 (match l.origin with | .pinned => 1 | .learned => 2) ++ be 1 l.shape.rateCode ++ be 3 l.shape.timeBase
      ++ be 1 l.shape.phasors ++ be 1 l.shape.analogs ++ be 1 l.shape.digitals ++ be 1 0

/-! ### SET and LATE (10 R207, R208) -/

/-- Channel data in the order and widths of the DATA frame. -/
def Channels.bytes (x : Channels) : List Byte :=
  x.phasors.flatMap (fun p => be 4 p.magnitude.toNat ++ be 2 p.angle.toNat) ++ be 2 x.freqDev.toNat
    ++ be 2 x.rocof.toNat ++ x.analogs.flatMap (fun v => be 4 v.toNat) ++ x.digitals.flatMap (fun v => be 2 v.toNat)

/-- The body of a PRESENT or HELD entry, from entry offset 3. -/
def Cell.entryBytes (x : Cell) (age : Nat) : List Byte :=
  be 2 x.source ++ be 1 (pathCode x.path) ++ be 1 x.flagBits ++ be 1 x.uncertainty ++ beS32 x.offset
    ++ be 6 x.arrival.toNat ++ be 1 x.data.phasors.length ++ be 1 x.data.analogs.length ++ be 1 x.data.digitals.length
    ++ be 1 age ++ x.data.bytes

/-- An entry of a SET. -/
def SetEntry.bytes (e : SetEntry) : List Byte :=
  let head (status : Nat) := be 1 e.stream ++ be 1 status ++ be 1 e.expected.toNat
  match e.body with
  | .present x => head 0 ++ x.entryBytes 0
  | .held x age => head 1 ++ x.entryBytes age
  | .absent => head 2

/-- The SET payload. -/
def SetRecord.bytes (r : SetRecord) : List Byte :=
  be 2 r.identity ++ r.label.bytes ++ be 1 r.rateCode ++ be 1 r.openCause.code ++ be 1 r.sealCause.code
    ++ be 1 r.grade.code ++ be 2 r.expectedCount ++ be 2 r.expectedPresent ++ be 2 r.cellCount ++ be 2 r.heldCount
    ++ r.entries.flatMap SetEntry.bytes

/-- The LATE payload (06 R136). -/
def LateEntry.bytes (identity : Nat) (e : LateEntry) : List Byte :=
  be 2 identity ++ e.label.bytes ++ be 1 e.rateCode ++ be 1 e.kind.code
    ++ SetEntry.bytes ⟨e.cell.stream, false, .present e.cell⟩

/-! ### NOTICE (10 R209, R210) -/

/-- The kind code, the stream, the old and the new state as codes, and the value's 32 bits (09 R190). -/
def NoticeEvent.fields : NoticeEvent → Nat × Option Nat × Option Nat × Option Nat × BitVec 32
  | .timeState old new value => (0x01, none, some old.code, some new.code, value)
  | .timeStep delta => (0x02, none, none, none, BitVec.ofInt 32 delta)
  | .leap dir second => (0x03, none, none, some dir.code, second)
  | .streamState n old new cause => (0x04, some n, some old.code, some new.code, BitVec.ofNat 32 cause.code)
  | .pathState n oldUp newUp path =>
    (0x05, some n, some oldUp.toNat, some newUp.toNat, BitVec.ofNat 32 (pathCode path))
  | .layoutChange n rate => (0x06, some n, none, none, BitVec.ofNat 32 rate)
  | .layoutMismatch n rate => (0x07, some n, none, none, BitVec.ofNat 32 rate)
  | .unknownSource source => (0x08, none, none, none, BitVec.ofNat 32 source)
  | .linkOverrun cls => (0x09, none, none, none, BitVec.ofNat 32 cls.toNat)
  | .sealPressure n cause => (0x0A, some n, none, none, BitVec.ofNat 32 cause.code)
  | .resetDone cause discarded => (0x0B, none, none, some cause.code, BitVec.ofNat 32 discarded)

/-- The NOTICE payload, 19 bytes. -/
def Notice.bytes (n : Notice) : List Byte :=
  let (kind, stream, old, new, value) := n.event.fields
  be 1 kind ++ be 1 (flagBits [stream.isSome, old.isSome, new.isSome]) ++ be 1 (stream.getD 0) ++ be 1 (old.getD 0)
    ++ be 1 (new.getD 0) ++ be 4 value.toNat ++ be 6 n.uptime.toNat ++ be 4 n.lost

/-! ### The link message (10 R200) -/

/-- The five bytes of a header that its check covers. -/
def headerBody (cls tag : Byte) (length credit : Nat) : List Byte :=
  [cls, tag] ++ be 2 length ++ be 1 credit

/-- A whole link message, in either direction. -/
def messageBytes (cls tag : Byte) (credit : Nat) (payload : List Byte) : List Byte :=
  let body := headerBody cls tag payload.length credit
  [syncByte] ++ body ++ [crc8 body] ++ payload ++ be 2 (crc16 payload).toNat

/-- A byte on the line: a start bit at low level, the data bits least significant first, a stop bit at high level
(07 R142). -/
def lineByte (b : Byte) : List Bool :=
  [false, b.getLsbD 0, b.getLsbD 1, b.getLsbD 2, b.getLsbD 3, b.getLsbD 4, b.getLsbD 5, b.getLsbD 6, b.getLsbD 7, true]

/-- Bytes on the line without idle bit times between them. -/
def lineBytes (bytes : List Byte) : List Bool := bytes.flatMap lineByte

end Sys2Proof.Machine
end

