-- ==== Sys2Proof/Machine/Operands.lean ====
section
/-! DEFINITION. The fields read from bytes: request payloads (10 R204) and field frames (10 R202, R203). Reserved bits
are not read. -/

namespace Sys2Proof.Machine

/-- An unsigned number, most significant byte first (10 R198). -/
def beNat (bytes : List Byte) : Nat := bytes.foldl (fun acc b => acc * 256 + b.toNat) 0

/-- The unsigned field of `len` bytes at offset `off`. -/
def field (bytes : List Byte) (off len : Nat) : Nat := beNat ((bytes.drop off).take len)

/-- Bit `n` of the byte at offset `off`. -/
def bitAt (bytes : List Byte) (off n : Nat) : Bool := (bytes.getD off 0).getLsbD n

/-! ### Field frames -/

/-- The frame's check word is good: its last two bytes are the check of those before (02 R28, R30). -/
def frameCheckGood (frame : List Byte) : Bool :=
  frame.drop (frame.length - 2) == be 2 (crc16 (frame.take (frame.length - 2))).toNat

/-- The length of a DATA frame of a layout (02 R24). -/
def Layout.frameLength (l : Layout) : Nat := 18 + 6 * l.phasors + 4 * l.analogs + 2 * l.digitals

/-- The channel data of a DATA frame read by a layout (10 R202). -/
def readChannels (l : Layout) (frame : List Byte) : Channels where
  phasors := (List.range l.phasors).map fun k =>
    ⟨BitVec.ofNat 32 (field frame (12 + 6 * k) 4), BitVec.ofNat 16 (field frame (16 + 6 * k) 2)⟩
  freqDev := BitVec.ofNat 16 (field frame (12 + 6 * l.phasors) 2)
  rocof := BitVec.ofNat 16 (field frame (14 + 6 * l.phasors) 2)
  analogs := (List.range l.analogs).map fun m => BitVec.ofNat 32 (field frame (16 + 6 * l.phasors + 4 * m) 4)
  digitals := (List.range l.digitals).map fun n =>
    BitVec.ofNat 16 (field frame (16 + 6 * l.phasors + 4 * l.analogs + 2 * n) 2)

/-- The second a DATA frame names: its label with the inserted flag of its time quality (02 R24). -/
def frameSecond (frame : List Byte) : Second := ⟨BitVec.ofNat 32 (field frame 4 4), bitAt frame 11 6⟩

/-- The layout a LAYOUT frame describes (02 R27). -/
def readLayout (frame : List Byte) : Layout :=
  ⟨field frame 3 1, field frame 4 3, field frame 7 1, field frame 8 1, field frame 9 1⟩

/-- Every field of a layout lies in its range (02 R27, 03 R44). -/
def Layout.inRange (l : Layout) : Bool :=
  decide (l.rateCode ≤ 12) && decide (1 ≤ l.timeBase) && decide (l.timeBase ≤ 16777215) && decide (l.phasors ≤ 12)
    && decide (l.analogs ≤ 4) && decide (l.digitals ≤ 2)

/-! ### Requests (offsets after the kind byte) -/

/-- STREAM_DEFINE as read: with a layout mark of 1 the seven layout bytes stand before the rotate enable. -/
structure DefineFields where
  stream : Nat
  source : Nat
  layout : Option Layout
  rotate : Bool
  fillCode : Nat
  holdLimit : Nat
  errThreshold : Nat
  silenceCount : Nat
  deriving DecidableEq, Repr

/-- The fields of a STREAM_DEFINE whose length fits its layout mark (10 R204). -/
def readDefine (p : List Byte) : DefineFields :=
  let marked := field p 4 1 == 1
  let at0 := if marked then 12 else 5
  { stream := field p 0 2
    source := field p 2 2
    layout := if marked then some ⟨field p 5 1, field p 6 3, field p 9 1, field p 10 1, field p 11 1⟩ else none
    rotate := bitAt p at0 0
    fillCode := field p (at0 + 1) 1
    holdLimit := field p (at0 + 2) 1
    errThreshold := field p (at0 + 3) 1
    silenceCount := field p (at0 + 4) 1 }

end Sys2Proof.Machine
end

