-- ==== Sys2Proof/Machine/Ops.lean ====
section
/-! DEFINITION. The operations the families share: reading time, posting notices, stream records, what waits for the
link, placing replies, freeing the head of the inbound queue. -/

namespace Sys2Proof.Machine

/-! ### Time as the blocks read it -/

/-- Time is set in LOCKED, HOLDOVER and FREE (01 R1). -/
def Tbu.timeSet (t : Tbu) : Bool :=
  match t.tstate with
  | .unset | .acquiring => false
  | .locked | .holdover | .free => true

/-- Nanoseconds into the current second (01 R1). -/
def Tbu.ns (t : Tbu) : Nat := t.c * Config.second / t.nSec

/-- Local time, when time is set (01 R1). -/
def Tbu.localTime (t : Tbu) : Option Instant := if t.timeSet then some ⟨t.second, t.ns⟩ else none

/-- The grade of local time, by the holdover limit in force (01 R11). DESIGN CHOICE (log 44): a limit that TIME_POLICY has just
written is in force for every grade read after it, without waiting for the next rollover (01 R10, R20). -/
def Tbu.grade (t : Tbu) : Grade :=
  match t.tstate with
  | .unset | .acquiring => .none
  | .locked => .a
  | .holdover => if t.holdoverAge < holdoverLimit t.policy.limitCode / 4 then .b else .c
  | .free => .d

/-- The output rate in force. -/
def State.fout (s : State) : Nat := s.rqh.config.fout

/-- The leap records in force. -/
def State.leaps (s : State) : Leaps := s.tbu.leaps

/-- The latest output label whose instant is at or before a point of local time (01 R17). -/
def latestLabel (fout : Nat) (t : Instant) : Label := ⟨t.second, latestIndex fout t.ns⟩

/-! ### Notices (09) -/

/-- A block posts a notice: it joins the tail, or is counted lost (09 R187, R188). -/
def post (e : NoticeEvent) (s : State) : State :=
  if s.ntq.records.length < Config.notices then
    { s with ntq := { s.ntq with records := s.ntq.records ++ [⟨e, s.tbu.uptime, 0⟩] } }
  else { s with ntq := { s.ntq with lost := satInc s.ntq.lost } }

/-- A NOTICE message is in transmission; it is that of the first record (09 R189). -/
def State.noticeSending (s : State) : Bool :=
  match s.lki.tx with
  | some m => m.cls == .notice
  | none => false

/-- RESET_DONE joins ahead of every record whose message has not begun; with 32 records held, the newest of those is
removed and counted lost (09 R192). -/
def postResetDone (cause : ResetCause) (discarded : Nat) (s : State) : State :=
  let full := decide (Config.notices ≤ s.ntq.records.length)
  let kept := if full then s.ntq.records.dropLast else s.ntq.records
  let begun := if s.noticeSending then 1 else 0
  let n : Notice := ⟨.resetDone cause discarded, s.tbu.uptime, 0⟩
  { s with
    ntq := { records := kept.take begun ++ [n] ++ kept.drop begun
             lost := if full then satInc s.ntq.lost else s.ntq.lost } }

/-! ### Stream records (03) -/

/-- The record of stream `n`. -/
def State.stream (s : State) (n : Nat) : StreamRec := s.streams.getD n .reset

/-- Stream `n`'s record changed by `f`. -/
def State.modStream (s : State) (n : Nat) (f : StreamRec → StreamRec) : State :=
  { s with streams := s.streams.modify n f }

/-- Stream `n`'s counters changed by `f`. -/
def State.count (s : State) (n : Nat) (f : StreamCounters → StreamCounters) : State :=
  s.modStream n fun r => { r with counters := f r.counters }

/-- The stream's reporting rate Fs, when its layout is present. -/
def StreamRec.fs (r : StreamRec) : Option Nat := r.layout.map fun l => rateOf l.shape.rateCode

/-- The path record of a path. -/
def StreamRec.path (r : StreamRec) : Path → PathRec
  | .a => r.pathA
  | .b => r.pathB

/-- A path record changed by `f`. -/
def StreamRec.modPath (r : StreamRec) (p : Path) (f : PathRec → PathRec) : StreamRec :=
  match p with
  | .a => { r with pathA := f r.pathA }
  | .b => { r with pathB := f r.pathB }

/-- A stream state other than DISABLED. -/
def StreamState.enabled : StreamState → Bool
  | .disabled => false
  | .learning | .waiting | .locked | .faulted | .silent => true

/-- The source map's stream for a source ID (03 R43). -/
def State.lookupSource (s : State) (source : Nat) : Option Nat :=
  (s.sourceMap.find? fun e => e.1 == source).map (·.2)

/-! ### What waits for the link (07) -/

/-- Free entries of the inbound queue, at most 15 (07 R152). -/
def State.credit (s : State) : Nat := min (Config.inbound - s.lki.inbound.length) 15

/-- A message other than FLOW waits for the transmitter. While a NOTICE or a LATE message is in transmission its record or
entry still heads its queue and does not wait; no other message starts then either (07 R155). -/
def State.otherWaiting (s : State) : Bool :=
  !s.lki.replies.isEmpty || !s.ntq.records.isEmpty || !s.sem.late.isEmpty
    || (match s.sem.cursor with | .offered .. => true | .idle | .sending .. => false)

/-- The record is the RESET_DONE of a pin reset. -/
def Notice.pinResetDone (n : Notice) : Bool :=
  match n.event with
  | .resetDone .pin _ => true
  | _ => false

/-- The RESET_DONE of a pin reset is the oldest record. -/
def State.resetDoneFirst (s : State) : Bool := s.ntq.records.head?.any Notice.pinResetDone

/-- The class the arbiter takes next: the highest that waits (07 R155). DESIGN CHOICE (log 41): after pin reset RESET_DONE is
the first message sent (07 R158, 09 R192), ahead of the replies that R155 and R189 rank before it. -/
def State.nextClass (s : State) : Option OutClass :=
  if s.resetDoneFirst then some .notice
  else if !s.lki.replies.isEmpty then some .reply
  else if !s.ntq.records.isEmpty then some .notice
  else if s.lki.flowPending then some .flow
  else match s.sem.cursor with
    | .offered .. => some .set
    | .idle | .sending .. => if s.sem.late.isEmpty then none else some .late

/-! ### Replies and the head of the inbound queue (07, 08) -/

/-- An ordinary place of the reply queue is free (07 R151, R154). -/
def State.placeFree (s : State) : Bool := decide ((s.lki.replies.countP fun r => !r.kept) < Config.replies)

/-- The place kept for the deferred reply is free (07 R151, R154). -/
def State.keptFree (s : State) : Bool := s.lki.replies.all fun r => !r.kept

/-- A reply joins the reply queue (07 R154). -/
def State.placeReply (s : State) (r : Reply) : State := { s with lki := { s.lki with replies := s.lki.replies ++ [r] } }

/-- The payload of a REPLY: kind, status, detail, body (10 R206). -/
def replyPayload (kind : Byte) (status : Status) (detail : Nat) (body : List Byte) : List Byte :=
  kind :: (be 1 status.code ++ be 1 detail ++ body)

/-- What executing a request comes to: its OK reply's body, a refusal with its detail, or the deferral of an ALIGN_STOP
(08 R161, R163). -/
inductive Answer where
  | ok (body : List Byte)
  | refuse (status : Status) (detail : Nat)
  | deferred
  deriving DecidableEq, Repr

/-- The answer's reply takes an ordinary place (07 R154). -/
def State.answer (s : State) (tag kind : Byte) : Answer → State
  | .ok body => s.placeReply ⟨false, tag, replyPayload kind .ok 0 body⟩
  | .refuse status detail => s.placeReply ⟨false, tag, replyPayload kind status detail []⟩
  | .deferred => s

/-- The head entry is freed; with the transmitter IDLE and no other message waiting, the FLOW flag is set (07 R150,
R153). -/
def State.freeHead (s : State) : State :=
  { s with
    lki := { s.lki with
      inbound := s.lki.inbound.tail
      flowPending := s.lki.flowPending || (s.lki.tx.isNone && !s.otherWaiting) } }

/-- The kind codes of the table of 10 R204. -/
def kindKnown (k : Byte) : Bool := decide (1 ≤ k.toNat) && decide (k.toNat ≤ 15)

/-- The consumer may take the head entry (07 R151, 08 R161): a FIELD message always; a SOFT_RESET always, when it is one
(log 19); an ALIGN_STOP when an ordinary place and the kept place are free; any other request or a length note when an
ordinary place is free. -/
def State.headReady (s : State) : Bool :=
  match s.lki.inbound.head? with
  | none => false
  | some (.field ..) => true
  | some (.lengthNote _) => s.placeFree
  | some (.request _ []) => s.placeFree
  | some (.request _ (k :: p)) =>
    if k = 0x0F ∧ p = [] then true
    else if k = 0x0D then s.placeFree && s.keptFree
    else s.placeFree

/-- The tag and the fields of the request of kind `k` that the Request Handler takes now. -/
def State.requestOf (s : State) (k : Byte) : Option (Byte × List Byte) :=
  match s.lki.inbound.head? with
  | some (.request tag (k' :: p)) => if k' = k && s.headReady then some (tag, p) else none
  | _ => none

/-- A request of kind `k` is executed as one event: `body` gives its effects and its answer, the reply is placed and the
head freed (08 R161). With no such request to take, nothing happens (log 2). -/
def serve (k : Byte) (body : Byte → List Byte → State → State × Answer) (s : State) : State :=
  match s.requestOf k with
  | none => s
  | some (tag, p) => let r := body tag p s; (r.1.answer tag k r.2).freeHead

/-- The length test of 08 R162: with `n` bytes after the kind byte the request goes on, otherwise BAD_LENGTH. -/
def ofLength (n : Nat) (p : List Byte) (s : State) (body : State × Answer) : State × Answer :=
  if p.length = n then body else (s, .refuse .badLength 0)

end Sys2Proof.Machine
end

