-- ==== Sys2Proof/Machine/Buffer.lean ====
section
/-! DEFINITION. The Alignment Buffer's operations (05): opening, sealing and offering slots, ticks and deadlines,
placement, stream reports, the start and the end of a run, the emission end. -/

namespace Sys2Proof.Machine

/-! ### Slots and the window -/

def State.slotAt (s : State) (pos : Nat) : Slot := s.alb.slots.getD pos .vacant

def State.setSlot (s : State) (pos : Nat) (x : Slot) : State :=
  { s with alb := { s.alb with slots := s.alb.slots.set pos x } }

/-- The ring position of the window label at distance `k` from B (05 R94). -/
def State.winPos (s : State) (k : Nat) : Nat := (s.alb.basePos + k) % Config.slots

/-- `f` on every ring position in label order from B. -/
def eachSlot (f : Nat → State → State) (s : State) : State :=
  (List.range Config.slots).foldl (fun t k => f (s.winPos k) t) s

def Slot.isSealed : Slot → Bool
  | .sealed .. => true
  | .vacant | .opened _ => false

def Slot.isOpen : Slot → Bool
  | .opened _ => true
  | .vacant | .sealed .. => false

/-- Some slot is SEALED. -/
def State.anySealed (s : State) : Bool := s.alb.slots.any Slot.isSealed

/-- The slot holds a cell of stream `n`. -/
def SlotData.has (d : SlotData) (n : Nat) : Bool := d.present.any fun h => h.cell.stream == n

/-! ### Sealing and offering (05 R106, R114) -/

/-- The slot at B, when it is SEALED, is offered to an IDLE Set Emitter (05 R114, 06 R121). -/
def offerBase (s : State) : State :=
  match s.slotAt s.alb.basePos, s.sem.cursor with
  | .sealed _ d, .idle => { s with sem := { s.sem with cursor := .offered s.alb.basePos d.label } }
  | _, _ => s

/-- The part-wide counter of a seal cause rises (05 R106). -/
def Alb.countSeal (a : Alb) : SealCause → Alb
  | .complete => { a with sealedComplete := satInc a.sealedComplete }
  | .deadline => { a with sealedDeadline := satInc a.sealedDeadline }
  | .horizon => { a with sealedHorizon := satInc a.sealedHorizon }
  | .pool => { a with sealedPool := satInc a.sealedPool }
  | .drain => { a with sealedDrain := satInc a.sealedDrain }

/-- An OPEN slot becomes SEALED; at B it is offered (05 R106). -/
def sealSlot (cause : SealCause) (pos : Nat) (s : State) : State :=
  match s.slotAt pos with
  | .opened d =>
    let t := s.setSlot pos (.sealed cause d)
    let t := { t with alb := t.alb.countSeal cause }
    if pos = s.alb.basePos then offerBase t else t
  | .vacant | .sealed .. => s

/-- The first HORIZON or POOL seal after a look at the buffer posts its notice (05 R105). -/
def sealPressure (stream : Nat) (cause : SealCause) (s : State) : State :=
  if s.alb.pressureArmed then
    let t := post (.sealPressure stream cause) s
    { t with alb := { t.alb with pressureArmed := false } }
  else s

/-- An OPEN slot sealed HORIZON or POOL on behalf of a refused cell's stream (05 R100, R101, R105). -/
def sealUnderPressure (stream : Nat) (cause : SealCause) (pos : Nat) (s : State) : State :=
  if (s.slotAt pos).isOpen then sealPressure stream cause (sealSlot cause pos s) else s

/-- A complete slot: something is expected, and all of it is present (05 R103). -/
def SlotData.complete (d : SlotData) : Bool := !d.expected.isEmpty && d.expectedPresent == d.expected.length

/-- The completion test (05 R103). -/
def sealIfComplete (pos : Nat) (s : State) : State :=
  match s.slotAt pos with
  | .opened d => if d.complete then sealSlot .complete pos s else s
  | .vacant | .sealed .. => s

/-! ### Opening (05 R97) -/

/-- The expected set of a label: the LOCKED streams whose grid contains it (05 R97, 04 R82). -/
def State.expectedAt (s : State) (l : Label) : List Nat :=
  (List.range Config.streams).filter fun n =>
    let r := s.stream n
    r.state == .locked && (match r.fs with | some fs => onGrid s.fout fs l.index | none => false)

/-- Lhat of a seeded stream (03 R63). -/
def StreamRec.seededLhat (r : StreamRec) : Option Nat := if r.seedMark then none else r.lhat

/-- The deadline window W in µs of an expected set (04 R86, R87). -/
def State.deadlineWindow (s : State) (expected : List Nat) : Nat :=
  let g := s.rqh.config
  match g.mode with
  | .fixed => g.wFixed * 1000
  | .adaptive =>
    match expected.filterMap fun n => (s.stream n).seededLhat with
    | [] => g.wMax * 1000
    | l :: ls => clampNat (g.wMin * 1000) (g.wMax * 1000) ((l :: ls).foldl max 0 + g.margin * 1000)

/-- Local time has reached the slot's deadline (04 R88, 05 R104). -/
def State.deadlineReached (s : State) (d : SlotData) : Bool :=
  match s.tbu.localTime with
  | none => false
  | some t => decide ((d.window * 1000 : Int) ≤ s.leaps.diff (d.label.instant s.fout) t)

/-- The part-wide counter of an opening cause rises (05 R97). -/
def Alb.countOpen (a : Alb) : OpenCause → Alb
  | .tick => { a with openedTick := satInc a.openedTick }
  | .frame => { a with openedFrame := satInc a.openedFrame }

/-- What a slot holds when it opens for a label with an expected set (05 R97). -/
def State.openedData (s : State) (l : Label) (cause : OpenCause) (expected : List Nat) : SlotData :=
  let w := s.deadlineWindow expected
  { label := l
    openCause := cause
    grade := s.tbu.grade
    window := w
    deadline := s.leaps.advance (l.instant s.fout) (w * 1000)
    expected := expected
    present := []
    expectedPresent := 0 }

/-- A FREE slot opens for a label, and seals at once when its deadline is past (05 R97). -/
def openSlot (pos : Nat) (l : Label) (cause : OpenCause) (expected : List Nat) (s : State) : State :=
  let d := s.openedData l cause expected
  let t := s.setSlot pos (.opened d)
  let t := { t with alb := t.alb.countOpen cause }
  if t.deadlineReached d then sealSlot .deadline pos t else t

/-- A FREE slot opens with the expected set of its label; any other slot is passed over. -/
def openIfVacant (pos : Nat) (l : Label) (cause : OpenCause) (s : State) : State :=
  match s.slotAt pos with
  | .vacant => openSlot pos l cause (s.expectedAt l) s
  | .opened _ | .sealed .. => s

/-- The window slots from distance `k` on, `n` of them, opened in label order up to the frontier `f` (05 R96). -/
def openThrough (f : Label) : Nat → Nat → Label → State → State
  | 0, _, _, s => s
  | n + 1, k, l, s =>
    if s.leaps.labelBefore s.fout f l then s
    else openThrough f n (k + 1) (s.leaps.labelSucc s.fout l) (openIfVacant (s.winPos k) l .tick s)

/-- A tick reaches the buffer (05 R93, R96). -/
def bufferTick (l : Label) (s : State) : State :=
  match s.alb.runState, s.alb.base, s.alb.frontier with
  | .running, some b, some f =>
    if s.leaps.labelBefore s.fout l b then s
    else
      let f' := if s.leaps.labelBefore s.fout f l then l else f
      openThrough f' Config.slots 0 b { s with alb := { s.alb with frontier := some f' } }
  | _, _, _ => s

/-- The OPEN slot at a position seals when its deadline is reached. -/
def sealIfDue (pos : Nat) (s : State) : State :=
  match s.slotAt pos with
  | .opened d => if s.deadlineReached d then sealSlot .deadline pos s else s
  | .vacant | .sealed .. => s

/-- Every OPEN slot whose deadline local time has reached seals (05 R104). -/
def sealDue (s : State) : State := eachSlot sealIfDue s

/-- Some OPEN slot's deadline is reached. -/
def State.deadlineDue (s : State) : Bool :=
  s.alb.slots.any fun
    | .opened d => s.deadlineReached d
    | .vacant | .sealed .. => false

/-! ### Late cells (06 R133, R134) -/

/-- A late cell reaches the Set Emitter. -/
def lateCell (kind : LateKind) (l : Label) (x : Cell) (s : State) : State :=
  let t := s.count x.stream fun c => { c with late := satInc c.late }
  match s.rqh.config.late with
  | .discard => t
  | .forward =>
    if s.sem.late.length < Config.lateCells then
      let y := { x with faultedSource := (s.stream x.stream).state == .faulted, expected := false }
      { t with sem := { t.sem with late := t.sem.late ++ [⟨l, s.rqh.config.rateCode, kind, y⟩] } }
    else t.count x.stream fun c => { c with lateDropped := satInc c.lateDropped }

/-! ### Placement (05 R99 to R102) -/

/-- A DUPLICATE: counted, with the duplicate count of the path the copy came by (05 R101, 03 R60). -/
def refuseDuplicate (x : Cell) (s : State) : State :=
  (s.count x.stream fun c => { c with duplicate := satInc c.duplicate }).modStream x.stream fun r =>
    r.modPath x.path fun p => { p with dup := satInc p.dup }

/-- The present map with a cell entered, in ascending stream number. -/
def insertCell (h : HeldCell) (l : List HeldCell) : List HeldCell :=
  l.takeWhile (fun e => decide (e.cell.stream < h.cell.stream)) ++ h ::
    l.dropWhile (fun e => decide (e.cell.stream < h.cell.stream))

/-- The slot with a cell stored: EXPECTED and FAULTED_SOURCE set, the count raised (05 R101). -/
def SlotData.store (d : SlotData) (number : Nat) (faulted : Bool) (x : Cell) : SlotData :=
  let e := d.expected.contains x.stream
  { d with
    present := insertCell ⟨number, { x with expected := e, faultedSource := faulted }⟩ d.present
    expectedPresent := d.expectedPresent + e.toNat }

/-- A cell is stored in the OPEN slot `d` at `pos`, taking cell `number` from the head of the free list (05 R98, R101). -/
def storeCell (pos : Nat) (d : SlotData) (number : Nat) (rest : List Nat) (x : Cell) (s : State) : State :=
  let d' := d.store number ((s.stream x.stream).state == .faulted) x
  let t := s.setSlot pos (.opened d')
  let t := { t with alb := { t.alb with free := rest, lowWater := min t.alb.lowWater rest.length } }
  let t := t.count x.stream fun c => { c with placed := satInc c.placed }
  let t := t.modStream x.stream fun r => r.modPath x.path fun p => { p with lead := satInc p.lead }
  if d.expected.contains x.stream then sealIfComplete pos t else t

/-- The ring position of the OPEN slot nearest B. -/
def State.oldestOpen (s : State) : Option Nat :=
  ((List.range Config.slots).map s.winPos).find? fun pos => (s.slotAt pos).isOpen

/-- POOL_FULL: counted, and the OPEN slot nearest B seals with cause POOL (05 R101). -/
def refusePoolFull (x : Cell) (s : State) : State :=
  let t := s.count x.stream fun c => { c with poolFull := satInc c.poolFull }
  match t.oldestOpen with
  | some pos => sealUnderPressure x.stream .pool pos t
  | none => t

/-- A cell is placed against the OPEN or SEALED slot of its label (05 R101). -/
def placeInSlot (pos : Nat) (l : Label) (x : Cell) (s : State) : State :=
  match s.slotAt pos with
  | .vacant => s
  | .sealed _ d => if d.has x.stream then refuseDuplicate x s else lateCell .sealed l x s
  | .opened d =>
    if d.has x.stream then refuseDuplicate x s
    else match s.alb.free with
      | [] => refusePoolFull x s
      | number :: rest => storeCell pos d number rest x s

/-- The slot at distance `k` with label `l` seals HORIZON; a FREE one is first opened with cause FRAME and nothing
expected (05 R100). -/
def horizonSeal (stream k : Nat) (l : Label) (s : State) : State :=
  let pos := s.winPos k
  let t := match s.slotAt pos with
    | .vacant => openSlot pos l .frame [] s
    | .opened _ | .sealed .. => s
  sealUnderPressure stream .horizon pos t

/-- The window slots from distance `k` on, `n` of them, sealed HORIZON in label order. -/
def horizonSeals (stream : Nat) : Nat → Nat → Label → State → State
  | 0, _, _, s => s
  | n + 1, k, l, s => horizonSeals stream n (k + 1) (s.leaps.labelSucc s.fout l) (horizonSeal stream k l s)

/-- AHEAD: counted, and the slots at distance at most `d` − 128 seal HORIZON (05 R100). -/
def refuseAhead (x : Cell) (d : Nat) (b : Label) (s : State) : State :=
  horizonSeals x.stream (min (d - 127) Config.slots) 0 b
    (s.count x.stream fun c => { c with ahead := satInc c.ahead })

/-- The placement tests in their order (05 R99). -/
def placeCell (l : Label) (x : Cell) (s : State) : State :=
  match s.alb.start, s.alb.base with
  | some st, some b =>
    if s.leaps.labelBefore s.fout l st then s.count x.stream fun c => { c with preStart := satInc c.preStart }
    else if s.leaps.labelBefore s.fout l b then lateCell .passed l x s
    else
      let d := (s.leaps.labelDist s.fout b l).toNat
      if 127 < d then refuseAhead x d b s
      else
        let pos := s.winPos d
        placeInSlot pos l x (openIfVacant pos l .frame s)
  | _, _ => s

/-! ### Stream reports (05 R108, R109) -/

/-- The slot without stream `n` in its expected set; a cell of `n` stays, without EXPECTED (05 R108). -/
def SlotData.unexpect (d : SlotData) (n : Nat) : SlotData :=
  { d with
    expected := d.expected.filter (· != n)
    present := d.present.map fun h =>
      if h.cell.stream == n then { h with cell := { h.cell with expected := false } } else h
    expectedPresent := d.expectedPresent - (d.present.countP fun h => h.cell.stream == n && h.cell.expected) }

/-- The report on one slot: an OPEN slot that expects `n` loses it and is tested for completion. -/
def unlockAt (n pos : Nat) (s : State) : State :=
  match s.slotAt pos with
  | .opened d => if d.expected.contains n then sealIfComplete pos (s.setSlot pos (.opened (d.unexpect n))) else s
  | .vacant | .sealed .. => s

/-- The unlock report of stream `n` (05 R108). -/
def unlockReport (n : Nat) (s : State) : State := eachSlot (unlockAt n) s

/-- The slot without the cells of stream `n` (05 R109). -/
def SlotData.release (d : SlotData) (n : Nat) : SlotData :=
  { d with
    present := d.present.filter fun h => h.cell.stream != n
    expectedPresent := d.expectedPresent - (d.present.countP fun h => h.cell.stream == n && h.cell.expected) }

/-- The cells of stream `n` in an OPEN slot return to the tail of the free list (05 R98, R109). -/
def releaseAt (n pos : Nat) (s : State) : State :=
  match s.slotAt pos with
  | .opened d =>
    if d.has n then
      let t := s.setSlot pos (.opened (d.release n))
      { t with
        alb := { t.alb with free := t.alb.free ++ (d.present.filter fun h => h.cell.stream == n).map (·.number) } }
    else s
  | .vacant | .sealed .. => s

/-- The disable report of stream `n`: its cells in OPEN slots are returned first, then it leaves the expected sets
(05 R109). -/
def disableReport (n : Nat) (s : State) : State := unlockReport n (eachSlot (releaseAt n) s)

/-! ### Runs (05 R90 to R92) -/

/-- B moves on by one label (05 R92, R115). -/
def advanceBase (s : State) : State :=
  { s with
    alb := { s.alb with
      base := s.alb.base.map (s.leaps.labelSucc s.fout)
      basePos := (s.alb.basePos + 1) % Config.slots } }

/-- The body of an ALIGN_STOP reply with status OK (08 R178, 10 R206). -/
def stoppedBody (s : State) : List Byte :=
  be 1 s.alb.runState.code ++ optLabelBytes s.alb.start ++ optLabelBytes s.alb.base ++ optLabelBytes s.alb.frontier

/-- The drain ends: STANDBY, and the deferred reply with status OK takes the kept place (05 R92, 06 R137). -/
def endDrain (s : State) : State :=
  let t := { s with alb := { s.alb with runState := .standby } }
  match t.rqh.deferred with
  | none => t
  | some tag =>
    { (t.placeReply ⟨true, tag, replyPayload 0x0D .ok 0 (stoppedBody t)⟩) with rqh := { t.rqh with deferred := none } }

/-- While DRAINING: FREE labels at B are skipped until the slot at B is SEALED, or the drain ends with nothing SEALED
(05 R92). `n` bounds the labels looked at. -/
def drainOn : Nat → State → State
  | 0, s => s
  | n + 1, s =>
    if s.anySealed then
      match s.slotAt s.alb.basePos with
      | .vacant =>
        let t := advanceBase s
        drainOn n { t with alb := { t.alb with drainSkipped := satInc t.alb.drainSkipped } }
      | .sealed .. => offerBase s
      | .opened _ => s
    else endDrain s

/-- A run starts at the label after local time (05 R90). -/
def startRun (t : Instant) (s : State) : State :=
  let f := latestLabel s.fout t
  let b := s.leaps.labelSucc s.fout f
  { s with
    alb := { s.alb with runState := .running, start := some b, base := some b, basePos := 0, frontier := some f } }

/-- A run stops: every OPEN slot seals with cause DRAIN and the drain begins (05 R91). -/
def stopRun (tag : Byte) (s : State) : State :=
  let t := { s with alb := { s.alb with runState := .draining }, rqh := { s.rqh with deferred := some tag } }
  drainOn Config.slots (eachSlot (sealSlot .drain) t)

/-! ### The emission end (05 R115, R120) -/

/-- The cells of the slot at B join the tail of the free list and the slot becomes FREE. -/
def freeBaseSlot (s : State) : State :=
  match s.slotAt s.alb.basePos with
  | .sealed _ d | .opened d =>
    let t := s.setSlot s.alb.basePos .vacant
    { t with alb := { t.alb with free := t.alb.free ++ d.present.map (·.number) } }
  | .vacant => s

/-- The label now at B + 127 opens when the frontier has reached it (05 R115). -/
def exposeLabel (s : State) : State :=
  match s.alb.base, s.alb.frontier with
  | some b, some f =>
    let l := s.leaps.labelAdd s.fout 127 b
    if s.leaps.labelBefore s.fout f l then s else openIfVacant (s.winPos 127) l .tick s
  | _, _ => s

/-- The buffer's part of an emission end. In STANDBY the SET was in transmission at a SOFT_RESET: B, the base position and
the start label take their reset values (05 R120). -/
def bufferEmissionEnd (s : State) : State :=
  let t := freeBaseSlot s
  match t.alb.runState with
  | .standby => { t with alb := { t.alb with start := none, base := none, basePos := 0 } }
  | .running => offerBase (exposeLabel (advanceBase t))
  | .draining => drainOn Config.slots (advanceBase t)

end Sys2Proof.Machine
end

