-- ==== Sys2Proof/Machine/Streams.lean ====
section
/-! DEFINITION. The Stream Table's events (03): state changes, stream errors, good frames, layouts, silence, hold values,
and the stream requests' effects. -/

namespace Sys2Proof.Machine

/-! ### State changes (03 R50, R61) -/

/-- Stream `n` takes a state, with its STREAM_STATE notice (03 R50). -/
def changeState (n : Nat) (new : StreamState) (cause : StreamCause) (s : State) : State :=
  post (.streamState n (s.stream n).state new cause) (s.modStream n fun r => { r with state := new })

/-- Stream `n`, which was in `old`, issues the unlock report when that was LOCKED (03 R61). -/
def unlockIfWasLocked (n : Nat) (old : StreamState) (s : State) : State :=
  if old = .locked then unlockReport n s else s

/-! ### Stream errors (03 R47) -/

/-- The states in which E consecutive errors enter FAULTED. -/
def StreamState.canFault : StreamState → Bool
  | .waiting | .locked | .silent => true
  | .disabled | .learning | .faulted => false

/-- A stream error of stream `n`, its own counter changed by `f` (02 R36, 03 R47). -/
def streamError (n : Nat) (f : StreamCounters → StreamCounters) (s : State) : State :=
  let t := (s.count n f).modStream n fun r => { r with errCount := min (r.errCount + 1) 15, goodCount := 0 }
  let r := t.stream n
  if r.state.canFault && decide (r.errThreshold ≤ r.errCount) then
    let u := changeState n .faulted .errors (t.count n fun c => { c with faultEntries := satInc c.faultEntries })
    unlockIfWasLocked n r.state u
  else t

/-! ### Good frames (02 R37, 03 R48, R49, R57, R64, R67) -/

/-- The path record of a good frame is refreshed, with PATH_STATE when it was DOWN (03 R57). -/
def refreshPath (n : Nat) (p : Path) (now : Uptime) (s : State) : State :=
  let was := (s.stream n).path p
  let t := s.modStream n fun r => r.modPath p fun q => { q with up := true, last := some now }
  if was.up then t else post (.pathState n false true p) t

/-- A snapped instant is the newest so far: none is kept, or the kept one is earlier (03 R67). -/
def isNewest (r : Leaps) (kept : Option Newest) (x : Snapped) : Bool :=
  match kept with
  | none => true
  | some m => decide (0 < r.diff m.instant x.instant)

/-- The newest accepted instant becomes the snapped one when absent or earlier (03 R67). -/
def acceptInstant (n : Nat) (x : Snapped) (s : State) : State :=
  if isNewest s.leaps (s.stream n).newest x then
    s.modStream n fun r => { r with newest := some ⟨x.second, x.index, x.grid⟩ }
  else s

/-- The state machine takes a good frame (03 R48, R49). -/
def goodFrameState (n : Nat) (s : State) : State :=
  let t := s.modStream n fun r => { r with errCount := 0 }
  match (t.stream n).state with
  | .waiting | .silent => changeState n .locked .goodFrame (t.modStream n fun r => { r with seedMark := true })
  | .faulted =>
    if (t.stream n).goodCount + 1 < 4 then t.modStream n fun r => { r with goodCount := r.goodCount + 1 }
    else changeState n .locked .recovery (t.modStream n fun r => { r with goodCount := 0, seedMark := true })
  | .disabled | .learning | .locked => t

/-- A latency sample seeds or filters Lhat and raises the maximum (03 R64, 04 R80). -/
def StreamRec.sample (r : StreamRec) (x : Nat) : StreamRec :=
  let lhat := match r.lhat with
    | none => x
    | some l => if r.seedMark then x else filterLatency l x
  { r with lhat := some lhat, seedMark := false, latencyMax := max r.latencyMax x }

/-! ### Layout frames (03 R52 to R55) -/

/-- The silence limit of a stream whose layout is present (03 R58). -/
def StreamRec.silenceLimit (r : StreamRec) : Option Nat := r.fs.map fun fs => Machine.silenceLimit r.silenceCount fs

/-- A path of stream `n` has reached its silence expiry (03 R59). -/
def State.silenceDue (s : State) (n : Nat) (p : Path) : Bool :=
  let r := s.stream n
  match r.silenceLimit, ((r.path p).up : Bool), (r.path p).last with
  | some limit, true, some last => decide (limit ≤ elapsed last s.tbu.uptime)
  | _, _, _ => false

/-- A path goes DOWN with its notice (03 R59). -/
def pathDown (n : Nat) (p : Path) (s : State) : State :=
  post (.pathState n true false p) (s.modStream n fun r => r.modPath p fun q => { q with up := false })

/-- An expiry that a recomputed limit brings at once (03 R59). The stream enters WAITING in the same event, so only the
path goes DOWN (log 13). DESIGN CHOICE (log 38): 03 R59 takes the expiry at the recomputation when the forward difference
exceeds the new limit, and at any other time when it reaches the limit; the model takes it at the recomputation when the two
are equal too, so PATH_STATE comes before LAYOUT_CHANGE there. -/
def pathDownIfDue (n : Nat) (p : Path) (s : State) : State := if s.silenceDue n p then pathDown n p s else s

/-- Stream `n` learns a layout. -/
def learnLayout (n : Nat) (l : Layout) (s : State) : State :=
  (s.modStream n fun r => { r with layout := some ⟨l, .learned⟩, hold := none, errCount := 0 }).count n fun c =>
    { c with layoutLearned := satInc c.layoutLearned }

/-- A LEARNING stream takes the layout and enters WAITING (03 R53). -/
def firstLayout (n : Nat) (l : Layout) (s : State) : State :=
  changeState n .waiting .layout (post (.layoutChange n l.rateCode) (learnLayout n l s))

/-- A LEARNED layout is replaced (03 R55). The notices of the event go PATH_STATE, LAYOUT_CHANGE, STREAM_STATE
(03 R50). DESIGN CHOICE (log 36): where both paths expire at the recomputed limit, path A's PATH_STATE comes before path
B's. -/
def replaceLayout (n : Nat) (l : Layout) (s : State) : State :=
  let old := (s.stream n).state
  let t := (learnLayout n l s).modStream n fun r => { r with goodCount := 0 }
  let t := pathDownIfDue n .b (pathDownIfDue n .a t)
  let t := post (.layoutChange n l.rateCode) t
  let t := if old = .waiting then t else changeState n .waiting .layout t
  unlockIfWasLocked n old t

/-- An in-range LAYOUT frame of stream `n` (03 R52 to R55). -/
def layoutFrame (n : Nat) (l : Layout) (nominal : Nat) (s : State) : State :=
  if nominal ≠ (if s.straps.nomf then 60 else 50) then
    s.count n fun c => { c with nominalMismatch := satInc c.nominalMismatch }
  else match (s.stream n).layout with
    | none => firstLayout n l s
    | some have0 =>
      if have0.shape = l then s.count n fun c => { c with layoutConfirm := satInc c.layoutConfirm }
      else match have0.origin with
        | .learned => replaceLayout n l s
        | .pinned =>
          let t := s.count n fun c => { c with layoutMismatch := satInc c.layoutMismatch }
          if (s.stream n).mismatchArmed then
            post (.layoutMismatch n l.rateCode) (t.modStream n fun r => { r with mismatchArmed := false })
          else t

/-! ### Silence (03 R59) -/

/-- The other of the two paths. -/
def otherPath : Path → Path
  | .a => .b
  | .b => .a

/-- The silence expiry of a path; with the other path DOWN too, a LOCKED or FAULTED stream enters SILENT. -/
def expireSilence (n : Nat) (p : Path) (s : State) : State :=
  let other := (s.stream n).path (otherPath p)
  let old := (s.stream n).state
  let t := pathDown n p s
  if !other.up && (old == .locked || old == .faulted) then
    let u := (t.modStream n fun r => { r with goodCount := 0 }).count n fun c =>
      { c with silentEntries := satInc c.silentEntries }
    unlockIfWasLocked n old (changeState n .silent .silence u)
  else t

/-- The first path of a stream, in stream order and A before B, whose silence expiry is due. -/
def State.nextSilence (s : State) : Option (Nat × Path) :=
  (List.range Config.streams).findSome? fun n =>
    if s.silenceDue n .a then some (n, .a) else if s.silenceDue n .b then some (n, .b) else none

/-! ### Hold values (03 R65) -/

/-- The record takes a PRESENT cell as its hold value when the cell fits it. -/
def StreamRec.offerHold (r : StreamRec) (x : Cell) : StreamRec :=
  let fits := match r.layout with
    | none => false
    | some l => l.shape.phasors == x.data.phasors.length && l.shape.analogs == x.data.analogs.length
        && l.shape.digitals == x.data.digitals.length
  if r.state.enabled && r.fill == .hold && x.source == r.source && fits then { r with hold := some ⟨x, 0⟩ } else r

/-! ### The stream requests' effects (03 R44 to R46, R69) -/

/-- The record of a definition, its running fields at their starting values (03 R44). -/
def definedRecord (q : DefineFields) : StreamRec :=
  { StreamRec.reset with
    source := q.source
    layout := q.layout.map fun l => ⟨l, .pinned⟩
    rotate := q.rotate
    fill := if q.fillCode = 1 then .hold else .none
    holdLimit := clampNat 0 15 q.holdLimit
    errThreshold := clampNat 1 15 q.errThreshold
    silenceCount := clampNat 1 255 q.silenceCount }

/-- An enabled stream's first state (03 R45). -/
def StreamRec.enabledState (r : StreamRec) : StreamState := if r.layout.isNone then .learning else .waiting

/-- The source ID enters the map and the stream is enabled (03 R45). -/
def enableStream (n : Nat) (s : State) : State :=
  let r := s.stream n
  changeState n r.enabledState .request { s with sourceMap := s.sourceMap ++ [(r.source, n)] }

/-- The record as STREAM_DISABLE leaves it, its state apart (03 R46). -/
def StreamRec.disable (r : StreamRec) : StreamRec :=
  { r with
    layout := r.layout.filter fun l => l.origin == .pinned
    pathA := { r.pathA with up := false, last := none }
    pathB := { r.pathB with up := false, last := none }
    lhat := none
    newest := none
    seedMark := true
    hold := none
    errCount := 0
    goodCount := 0 }

/-- An enabled stream is disabled (03 R46): it leaves the map, its running state is cleared, the disable report goes to
the buffer. -/
def disableStream (n : Nat) (s : State) : State :=
  let t := { s with sourceMap := s.sourceMap.filter fun e => e.2 != n }
  let t := t.modStream n StreamRec.disable
  disableReport n (changeState n .disabled .request t)

/-- What a query's clearing option clears (03 R69). -/
def StreamRec.clearCounts (r : StreamRec) : StreamRec :=
  { r with
    counters := .zero
    seqFlag := false
    latencyMax := 0
    pathA := { r.pathA with lead := 0, dup := 0 }
    pathB := { r.pathB with lead := 0, dup := 0 } }

end Sys2Proof.Machine
end

