-- ==== Sys2Proof/Machine/Frames.lean ====
section
/-! DEFINITION. The Frame Checker (02): the check order of R29, the good frame and its cell. FIELD_FRAME. -/

namespace Sys2Proof.Machine

/-- Step 7 (02 R34). -/
inductive LabelTest where
  | pass
  | timeFormat
  | badLeap
  deriving DecidableEq, Repr

def labelTest (r : Leaps) (timeBase : Nat) (frame : List Byte) : LabelTest :=
  let x := frameSecond frame
  if timeBase ≤ field frame 8 3 then .timeFormat
  else if x.inserted then (if r.insertAt x.label then .pass else .badLeap)
  else if r.deleteAt x.label then .badLeap else .pass

/-- Step 9 (04 R77): more than 128 output periods earlier than the newest accepted instant. -/
def regresses (r : Leaps) (fout : Nat) (newest : Option Newest) (x : Snapped) : Bool :=
  match newest with
  | none => false
  | some m => decide ((128 * Config.second : Int) < r.diff x.instant m.instant * (fout : Int))

/-- Step 10 (04 R78): later than local time of the reading by more than T_future. -/
def beyondFuture (r : Leaps) (tFuture : Nat) (reading : Option Instant) (x : Snapped) : Bool :=
  match reading with
  | none => false
  | some t => decide ((tFuture * 1000000 : Int) < r.diff t x.instant)

/-- Step 13 (04 R83 to R85): the phasor angles turned when rotation is enabled and due, with the ROTATED flag. -/
def compensate (nominal60 rotate : Bool) (offset : Int) (x : Channels) : Bool × Channels :=
  if rotate && decide (offset ≠ 0) && !x.phasors.isEmpty then
    let rot := rotation (signalFrequency nominal60 x.freqDev) offset
    (true, { x with phasors := x.phasors.map (rotatePhasor rot) })
  else (false, x)

/-- The cell the Frame Checker forms (02 R25, R39). -/
def formCell (s : State) (h : FrameInHand) (x : Snapped) : Cell :=
  let r := s.stream h.stream
  let c := compensate s.straps.nomf r.rotate x.offset (readChannels h.layout h.bytes)
  { stream := h.stream
    source := r.source
    path := h.path
    rotated := c.1
    dataInvalid := bitAt h.bytes 3 0
    trigger := bitAt h.bytes 3 1
    srcUnlocked := bitAt h.bytes 3 2 || !bitAt h.bytes 11 7
    faultedSource := false
    expected := false
    uncertainty := field h.bytes 11 1 % 16
    offset := x.offset
    arrival := h.reading.uptime
    data := c.2 }

/-- Step 11: the good frame's updates, in the order of 02 R37. -/
def goodFrame (h : FrameInHand) (x : Snapped) (s : State) : State :=
  let t := s.count h.stream fun c => { c with good := satInc c.good }
  let t := goodFrameState h.stream (acceptInstant h.stream x (refreshPath h.stream h.path h.reading.uptime t))
  match h.reading.localTime with
  | none => t
  | some now => t.modStream h.stream fun r => r.sample (latencySample (s.leaps.diff x.instant now))

/-- Steps 12 to 14 (02 R38, R39). -/
def deliver (h : FrameInHand) (x : Snapped) (s : State) : State :=
  let k := x.index * s.fout
  let fs := rateOf h.layout.rateCode
  if k % fs ≠ 0 then s.count h.stream fun c => { c with decimated := satInc c.decimated }
  else if s.alb.runState = .running then placeCell ⟨x.second, k / fs⟩ (formCell s h x) s
  else s.count h.stream fun c => { c with standbyDiscard := satInc c.standbyDiscard }

/-- The good frame stays in hand for steps 12 to 14. -/
def keepGood (h : FrameInHand) (x : Snapped) (s : State) : State :=
  { s with fck := { s.fck with inHand := some (.good h x) } }

/-- Steps 8 to 11 (02 R35). -/
def afterLabel (h : FrameInHand) (s : State) : State :=
  let ns := fractionNs (field h.bytes 8 3) h.layout.timeBase
  let x := snap s.leaps (frameSecond h.bytes) ns (rateOf h.layout.rateCode)
  let n := h.stream
  if (s.rqh.config.tSnap * 1000 : Int) < x.offset.natAbs then
    streamError n (fun c => { c with offGrid := satInc c.offGrid }) s
  else if regresses s.leaps s.fout (s.stream n).newest x then
    streamError n (fun c => { c with regression := satInc c.regression })
      (s.modStream n fun r => { r with seqFlag := true })
  else if beyondFuture s.leaps s.rqh.config.tFuture h.reading.localTime x then
    streamError n (fun c => { c with future := satInc c.future }) s
  else keepGood h x (goodFrame h x s)

/-- Steps 6 to 11 of a DATA frame of an enabled stream with a layout (02 R33, R34). -/
def dataFrame (h : FrameInHand) (s : State) : State :=
  if h.bytes.length ≠ h.layout.frameLength then
    streamError h.stream (fun c => { c with malformed := satInc c.malformed }) s
  else match labelTest s.leaps h.layout.timeBase h.bytes with
    | .timeFormat => streamError h.stream (fun c => { c with timeFormat := satInc c.timeFormat }) s
    | .badLeap => streamError h.stream (fun c => { c with badLeap := satInc c.badLeap }) s
    | .pass => afterLabel h s

/-- Step 5 for a LAYOUT frame: the range test of 02 R27, then the layout rules. -/
def layoutStep (n : Nat) (frame : List Byte) (s : State) : State :=
  let nominal := field frame 10 1
  let l := readLayout frame
  if l.inRange && (nominal == 50 || nominal == 60) then layoutFrame n l nominal s
  else streamError n (fun c => { c with malformed := satInc c.malformed }) s

/-- Step 5 (02 R32): by the frame's kind and the stream's state. -/
def streamStep (k : Reading) (path : Path) (frame : List Byte) (n : Nat) (s : State) : State :=
  let r := s.stream n
  if field frame 2 1 = 2 then layoutStep n frame s
  else match (if r.state = .learning then none else r.layout) with
    | none => s.count n fun c => { c with noLayout := satInc c.noLayout }
    | some l => dataFrame ⟨path, frame, n, l.shape, k⟩ s

/-- Step 4 (02 R31). -/
def sourceStep (k : Reading) (path : Path) (frame : List Byte) (s : State) : State :=
  match s.lookupSource (field frame 0 2) with
  | some n => streamStep k path frame n s
  | none =>
    let t := { s with fck := { s.fck with unknownSource := satInc s.fck.unknownSource } }
    if s.fck.armed then
      post (.unknownSource (field frame 0 2)) { t with fck := { t.fck with armed := false } }
    else t

/-- Step 1 (02 R30): long enough, of a known kind, a LAYOUT frame of 13 bytes. -/
def frameShapeGood (frame : List Byte) : Bool :=
  decide (13 ≤ frame.length) && (field frame 2 1 == 1 || (field frame 2 1 == 2 && frame.length == 13))

/-- The path a FIELD message's tag names (02 R30). -/
def pathOfTag (tag : Byte) : Option Path :=
  if tag = 0 then some .a else if tag = 1 then some .b else none

/-- The check order of 02 R29 from step 1 to step 11, or to the disposition that ends it before. -/
def checkFrame (k : Reading) (tag : Byte) (frame : List Byte) (s : State) : State :=
  if frameShapeGood frame then
    if frameCheckGood frame then
      match pathOfTag tag with
      | none => { s with fck := { s.fck with badPath := satInc s.fck.badPath } }
      | some p => sourceStep k p frame s
    else { s with fck := { s.fck with checkError := satInc s.fck.checkError } }
  else { s with fck := { s.fck with malformed := satInc s.fck.malformed } }

/-! ### The frame in hand (02 R23, R40; log 9) -/

/-- The FIELD message at the head of the inbound queue. -/
def State.headFrame (s : State) : Option (Byte × List Byte) :=
  match s.lki.inbound.head? with
  | some (.field tag frame) => some (tag, frame)
  | some (.request ..) | some (.lengthNote _) | none => none

/-- The work on the frame in hand becomes `w`. -/
def State.setFrame (s : State) (w : Option FrameWork) : State := { s with fck := { s.fck with inHand := w } }

/-- The frame at the head is taken, with its reading (02 R23). -/
def readFrame (s : State) : State :=
  match s.headFrame with
  | some _ => s.setFrame (some (.taken ⟨s.tbu.uptime, s.tbu.localTime⟩))
  | none => s

/-- The Frame Checker has finished with the frame, unless it is good and steps 12 to 14 are to come: the head's entry is
freed (02 R23, 07 R150). -/
def freeIfDone (s : State) : State := if s.fck.inHand.isSome then s else s.freeHead

/-- Steps 1 to 11 of the frame at the head, read with `k`. -/
def examineFrame (k : Reading) (s : State) : State :=
  match s.headFrame with
  | some (tag, frame) => freeIfDone (checkFrame k tag frame (s.setFrame none))
  | none => s

/-- Steps 12 to 14 of the good frame in hand. -/
def finishFrame (h : FrameInHand) (x : Snapped) (s : State) : State :=
  match s.headFrame with
  | some _ => (deliver h x (s.setFrame none)).freeHead
  | none => s

/-- The next part of the work on the frame at the head: it is taken, or it goes through steps 1 to 11, or through steps 12
to 14. The events of other blocks may fall between the parts (02 R40). -/
def advanceFrame (s : State) : State :=
  match s.fck.inHand with
  | none => readFrame s
  | some (.taken k) => examineFrame k s
  | some (.good h x) => finishFrame h x s

/-- The work goes on when a frame is in hand. -/
def goOn (s : State) : State := if s.fck.inHand.isSome then advanceFrame s else s

/-- The FIELD message at the head of the inbound queue is taken, unless it is in hand already, and the work on it goes on
to its disposition, when its entry is freed (02 R23, 07 R150). -/
def takeFrame (s : State) : State := goOn (goOn (advanceFrame s))

/-- FIELD_FRAME. -/
def execFieldFrame (s : State) : Host.Outcome State Fault Refusal := .next (takeFrame s)

end Sys2Proof.Machine
end

