-- ==== Sys2Proof/Machine/Transmit.lean ====
section
/-! DEFINITION. The transmitter and the outbound arbiter (07 R142, R152 to R156). -/

namespace Sys2Proof.Machine

/-! ### The transmitter (07) -/

/-- The bytes of a message on the line (07 R143, 10 R200). -/
def TxMessage.total (m : TxMessage) : Nat := m.payload.length + 9

/-- The message's next byte begins; the credit is taken as the credit byte, the sixth, begins (07 R142, R152). DESIGN CHOICE
(log 42): for the RESET_DONE of a pin reset too, where R158 says 15. -/
def beginByte (m : TxMessage) (s : State) : State :=
  let t := { m with out := m.out + 1, left := Config.byteCycles, paused := false }
  if m.out = 5 then
    { s with lki := { s.lki with tx := some { t with credit := some s.credit }, creditLast := s.credit } }
  else { s with lki := { s.lki with tx := some t } }

/-- The level of LTXC: low for the two REFCLK cycles from its falling edge, then high for two (07 R142). DESIGN CHOICE (log
35): the duty. -/
def State.ltxc (s : State) : Bool := decide (2 ≤ s.lki.ltxcPhase)

/-- The transmitter takes up a message at a byte boundary: its next byte begins in the event itself on a falling edge of
LTXC, otherwise it waits for one, the line at rest (07 R142). DESIGN CHOICE (log 35). -/
def beginAtEdge (m : TxMessage) (s : State) : State :=
  if s.lki.ltxcPhase = 0 then beginByte m s else { s with lki := { s.lki with tx := some m } }

/-- The transmitter takes a message (07 R155). -/
def startMessage (cls : OutClass) (tag : Byte) (payload : List Byte) (s : State) : State :=
  beginAtEdge ⟨cls, tag, payload, none, 0, 0, false⟩ s

/-- The message is at a byte boundary with all its bytes out. -/
def TxMessage.done (m : TxMessage) : Bool := decide (m.total ≤ m.out) && m.left == 0

/-- The transmitter's part of a REFCLK cycle, `edge` when LTXC falls on it: a byte in hand counts; at a byte boundary with
bytes to come, on a falling edge HRDY is sampled, and the next byte begins or the message pauses (07 R142, R156). -/
def txAdvance (edge : Bool) (s : State) : State :=
  match s.lki.tx with
  | none => s
  | some m =>
    if 2 ≤ m.left then { s with lki := { s.lki with tx := some { m with left := m.left - 1 } } }
    else if m.total ≤ m.out || !edge then { s with lki := { s.lki with tx := some { m with left := 0 } } }
    else if s.pins.hrdy then beginByte m s
    else { s with lki := { s.lki with tx := some { m with left := 0, paused := true } } }

/-- One REFCLK cycle of the transmitter. LTXC runs at one quarter of REFCLK whether or not a message is sent (07 R142; log
35). -/
def txCycle (s : State) : State :=
  let phase := (s.lki.ltxcPhase + 1) % 4
  txAdvance (phase == 0) { s with lki := { s.lki with ltxcPhase := phase } }

/-- The arbiter may start a message of a class: the transmitter is IDLE, HRDY is high, and the class is the highest that
waits (07 R155, R156). -/
def State.canStart (s : State) (cls : OutClass) : Bool :=
  s.lki.tx.isNone && s.pins.hrdy && s.nextClass == some cls

/-- The last byte of a message of a class has left the link. -/
def State.endDue (s : State) (cls : OutClass) : Bool :=
  match s.lki.tx with
  | some m => m.cls == cls && m.done
  | none => false

/-- The level of LTXD: high between messages and while paused, else the current bit of the byte going out (07 R142). -/
def State.ltxd (s : State) : Bool :=
  match s.lki.tx with
  | none => true
  | some m =>
    if m.left = 0 then true
    else
      let bytes := messageBytes m.cls.code m.tag (m.credit.getD 0) m.payload
      (lineByte (bytes.getD (m.out - 1) 0)).getD ((Config.byteCycles - m.left) / 4) true

/-- After a message's end: with no other message waiting and the credit above the credit last sent, the FLOW flag is set
(07 R153). -/
def flowAtEnd (s : State) : State :=
  if !s.otherWaiting && decide (s.lki.creditLast < s.credit) then
    { s with lki := { s.lki with flowPending := true } }
  else s

/-- The transmitter becomes IDLE (07 R155). -/
def State.txIdle (s : State) : State := { s with lki := { s.lki with tx := none } }

/-- The end of a message of a class: the transmitter is IDLE, the source's effects `f` follow, then the FLOW flag
(07 R153, R155). -/
def endMessage (cls : OutClass) (f : State → State) (s : State) : State :=
  if s.endDue cls then flowAtEnd (f s.txIdle) else s

end Sys2Proof.Machine
end

