-- ==== Sys2Proof/Machine/Link.lean ====
section
/-! DEFINITION. The receiver (07 R142, R145 to R149, R160): RECEIVE_MESSAGE and TRUNCATED; and SILENCE_EXPIRY (03 R59). -/

namespace Sys2Proof.Machine

/-! ### Bits (07 R142) -/

/-- One sample of LRXD: the bit receiver's next condition, and the byte it completes, if any. A byte starts at the first
low bit after at least one high bit; the stop bit is not tested. -/
def rxSample (x : RxLine) (b : Bool) : RxLine × Option Byte :=
  match x with
  | .wait sawHigh => if b then (.wait true, none) else if sawHigh then (.data [], none) else (.wait false, none)
  | .data bits =>
    if bits.length < 7 then (.data (bits ++ [b]), none)
    else (.wait false, some (BitVec.ofNat 8 ((bits ++ [b]).foldr (fun v acc => v.toNat + 2 * acc) 0)))

/-! ### Offering to the inbound queue (07 R147, R149) -/

/-- An entry offered to the inbound queue joins its tail, or is dropped as OVERRUN with LINK_OVERRUN when the mark is
armed. `accepted` says whether joining counts as ACCEPTED: a length note does not. -/
def offerInbound (e : Inbound) (cls : Byte) (counts : Bool) (s : State) : State :=
  if s.lki.inbound.length < Config.inbound then
    { s with
      lki := { s.lki with
        inbound := s.lki.inbound ++ [e]
        accepted := if counts then satInc s.lki.accepted else s.lki.accepted } }
  else
    let t := { s with lki := { s.lki with overrun := satInc s.lki.overrun } }
    if s.lki.overrunArmed then
      post (.linkOverrun cls) { t with lki := { t.lki with overrunArmed := false } }
    else t

/-! ### The receiver's modes -/

/-- One more message in the discard count, which stops at 65,535 (07 R160). -/
def countDiscard (s : State) : State :=
  { s with lki := { s.lki with discard := min (s.lki.discard + 1) Config.discardTop } }

/-- The receiver goes back to HUNT. -/
def toHunt (s : State) : State := { s with lki := { s.lki with rxMode := .hunt, rxUnderReset := false } }

/-- A byte taken in HUNT: 0xD3 is a SYNC byte; a message begun while the gate is RESETTING falls under 07 R160. -/
def huntByte (b : Byte) (s : State) : State :=
  if b = syncByte then
    { s with
      lki := { s.lki with
        rxMode := .header []
        rxUnderReset := s.lki.gate == .resetting
        lastByte := s.tbu.uptime } }
  else s

/-- A good header: by class and length the message is skipped or gathered (07 R146); under 07 R160 it is passed over
whatever it is. -/
def goodHeader (cls tag : Byte) (length : Nat) (s : State) : State :=
  let skip (note : Option Byte) (t : State) : State :=
    { t with lki := { t.lki with rxMode := .skip (length + 2) note } }
  if s.lki.rxUnderReset then
    let t := skip none s
    if Config.discardAtHeader then countDiscard t else t
  else if cls ≠ 0x01 ∧ cls ≠ 0x02 then
    skip none { s with lki := { s.lki with unknownClass := satInc s.lki.unknownClass } }
  else if Config.payloadLimit < length then
    skip (if cls = 0x01 then some tag else none) { s with lki := { s.lki with tooLong := satInc s.lki.tooLong } }
  else { s with lki := { s.lki with rxMode := .payload cls tag (length + 2) [] } }

/-- The header check passes (07 R143). -/
def headerGood (h : List Byte) : Bool := h.getD 5 0 == crc8 (h.take 5)

/-- The six bytes after SYNC are in hand (07 R145). After a failed check the hunt resumes at the byte after the failed
SYNC, so the six bytes are hunted through; a SYNC found there gathers those after it (log 22). -/
def headerDone (h : List Byte) (s : State) : State :=
  if headerGood h then goodHeader (h.getD 0 0) (h.getD 1 0) (field h 2 2) s
  else
    let t := toHunt { s with lki := { s.lki with headerError := satInc s.lki.headerError } }
    match h.dropWhile (· ≠ syncByte) with
    | [] => t
    | b :: rest =>
      let u := huntByte b t
      { u with lki := { u.lki with rxMode := .header rest } }

/-- A gathered message: its check word is tested, and a good one is offered (07 R147). -/
def messageDone (cls tag : Byte) (bytes : List Byte) (s : State) : State :=
  let payload := bytes.take (bytes.length - 2)
  let t := toHunt s
  if bytes.drop (bytes.length - 2) = be 2 (crc16 payload).toNat then
    offerInbound (if cls = 0x01 then .request tag payload else .field tag payload) cls true t
  else { t with lki := { t.lki with checkError := satInc t.lki.checkError } }

/-- The skip is complete: a too-long REQUEST leaves its length note (07 R149); a message under 07 R160 is counted. -/
def skipDone (note : Option Byte) (s : State) : State :=
  let t := toHunt s
  if s.lki.rxUnderReset then (if Config.discardAtHeader then t else countDiscard t)
  else match note with
    | some tag => offerInbound (.lengthNote tag) 0x01 false t
    | none => t

/-- One byte of the line reaches the receiver (07 R145 to R149). While the gate is CLOSED bytes are ignored (07 R158). -/
def rxByte (b : Byte) (s : State) : State :=
  if s.lki.gate = .closed then s
  else
    let t := { s with lki := { s.lki with lastByte := s.tbu.uptime } }
    match s.lki.rxMode with
    | .hunt => huntByte b s
    | .header got =>
      let h := got ++ [b]
      if h.length < 6 then { t with lki := { t.lki with rxMode := .header h } } else headerDone h t
    | .payload cls tag left got =>
      let g := got ++ [b]
      if 1 < left then { t with lki := { t.lki with rxMode := .payload cls tag (left - 1) g } }
      else messageDone cls tag g t
    | .skip left note =>
      if 1 < left then { t with lki := { t.lki with rxMode := .skip (left - 1) note } } else skipDone note t

/-- One sample of the line. DESIGN CHOICE (log 34): the bits are followed while the gate is CLOSED too, so a byte of which
the last data bit comes after the gate has opened is the next byte, although it began before. -/
def rxBit (s : State) (b : Bool) : State :=
  let r := rxSample s.lki.rxLine b
  let t := { s with lki := { s.lki with rxLine := r.1 } }
  match r.2 with
  | none => t
  | some byte => rxByte byte t

/-- RECEIVE_MESSAGE: the receiver takes the samples in order. -/
def execReceiveMessage (line : List Bool) (s : State) : Host.Outcome State Fault Refusal := .next (line.foldl rxBit s)

/-! ### TRUNCATED (07 R148) -/

/-- The receive gap has passed part-way through a message. -/
def State.gapDue (s : State) : Bool :=
  s.lki.rxMode != .hunt && decide (Config.receiveGap ≤ elapsed s.lki.lastByte s.tbu.uptime)

/-- The message in hand had a good header and is passed over. -/
def RxMode.isSkip : RxMode → Bool
  | .skip .. => true
  | .hunt | .header _ | .payload .. => false

/-- The message is abandoned and TRUNCATED counted; one passed over under 07 R160 counts as discarded, if it was not
counted at its header (log 8). -/
def truncate (s : State) : State :=
  let t := toHunt { s with lki := { s.lki with truncated := satInc s.lki.truncated } }
  if s.lki.rxUnderReset && s.lki.rxMode.isSkip && !Config.discardAtHeader then countDiscard t else t

/-- TRUNCATED. -/
def execTruncated (s : State) : Host.Outcome State Fault Refusal := .next (if s.gapDue then truncate s else s)

/-! ### SILENCE_EXPIRY (03 R59) -/

/-- SILENCE_EXPIRY. -/
def execSilenceExpiry (stream : Nat) (path : Path) (s : State) : Host.Outcome State Fault Refusal :=
  .next (if decide (stream < Config.streams) && s.silenceDue stream path then expireSilence stream path s else s)

end Sys2Proof.Machine
end

