-- ==== Sys2Proof/Machine/Emission.lean ====
section
/-! DEFINITION. The Set Emitter (06) and the starts and ends of messages (07 R154 to R156, 09 R189): REPLY_START to
LATE_END, HRDY_FALL, HRDY_RISE. -/

namespace Sys2Proof.Machine

/-! ### REPLY -/

/-- The oldest reply starts and leaves the reply queue (07 R154). -/
def startReply (s : State) : State :=
  if s.canStart .reply then
    match s.lki.replies with
    | [] => s
    | r :: rs => startMessage .reply r.tag r.payload { s with lki := { s.lki with replies := rs } }
  else s

/-- REPLY_START. -/
def execReplyStart (s : State) : Host.Outcome State Fault Refusal := .next (startReply s)

/-- The reply in transmission is the OK of a SOFT_RESET. -/
def State.resetReplySending (s : State) : Bool :=
  match s.lki.tx with
  | some m => m.cls == .reply && m.payload == replyPayload 0x0F .ok 0 []
  | none => false

/-- The gate opens and RESET_DONE is posted with the discard count, which returns to 0 (07 R160, 09 R192). -/
def completeReset (s : State) : State :=
  let t := { s with lki := { s.lki with gate := .opened, discard := 0 } }
  postResetDone .soft s.lki.discard t

/-- The end of a REPLY; that of the SOFT_RESET's OK ends the reset (07 R155, R160). -/
def endReply (s : State) : State :=
  let completes := s.lki.gate == .resetting && s.resetReplySending
  endMessage .reply (fun t => if completes then completeReset t else t) s

/-- REPLY_END. -/
def execReplyEnd (s : State) : Host.Outcome State Fault Refusal := .next (endReply s)

/-! ### NOTICE -/

/-- The oldest record takes the lost count and its message starts (09 R188, R189). DESIGN CHOICE (log 41): the RESET_DONE of a
pin reset carries 0, as R192 says, and the losses stay for the next NOTICE message. -/
def startNotice (s : State) : State :=
  if s.canStart .notice then
    match s.ntq.records with
    | [] => s
    | n :: ns =>
      let first := n.pinResetDone
      let n' := { n with lost := if first then 0 else s.ntq.lost }
      startMessage .notice 0 n'.bytes { s with ntq := ⟨n' :: ns, if first then s.ntq.lost else 0⟩ }
  else s

/-- NOTICE_START. -/
def execNoticeStart (s : State) : Host.Outcome State Fault Refusal := .next (startNotice s)

/-- The record of an ended NOTICE is removed (09 R189). -/
def endNotice (s : State) : State :=
  endMessage .notice (fun t => { t with ntq := { t.ntq with records := t.ntq.records.tail } }) s

/-- NOTICE_END. -/
def execNoticeEnd (s : State) : Host.Outcome State Fault Refusal := .next (endNotice s)

/-! ### FLOW -/

/-- A FLOW message starts and the flag is cleared (07 R153). -/
def startFlow (s : State) : State :=
  if s.canStart .flow then startMessage .flow 0 [] { s with lki := { s.lki with flowPending := false } } else s

/-- FLOW_START. -/
def execFlowStart (s : State) : Host.Outcome State Fault Refusal := .next (startFlow s)

/-- FLOW_END. -/
def execFlowEnd (s : State) : Host.Outcome State Fault Refusal := .next (endMessage .flow id s)

/-! ### SET (06 R122 to R131) -/

/-- The entry of stream `n` in the SET of a slot (06 R124 to R128). -/
def State.entryOf (s : State) (d : SlotData) (n : Nat) : SetEntry :=
  let body := match d.present.find? fun h => h.cell.stream == n with
    | some h => EntryBody.present h.cell
    | none =>
      let r := s.stream n
      match r.hold with
      | some v => if r.fill == .hold && decide (v.age < r.holdLimit) then .held v.cell (v.age + 1) else .absent
      | none => .absent
  ⟨n, d.expected.contains n, body⟩

/-- The entry list, in ascending stream number (06 R124). -/
def State.entryList (s : State) (d : SlotData) : List SetEntry :=
  ((List.range Config.streams).filter fun n => d.expected.contains n || d.has n).map (s.entryOf d)

def SetEntry.isHeld (e : SetEntry) : Bool :=
  match e.body with
  | .held .. => true
  | .present _ | .absent => false

/-- The emission record of the offered slot (06 R122, R123). -/
def State.setRecord (s : State) (cause : SealCause) (d : SlotData) : SetRecord :=
  let entries := s.entryList d
  { identity := s.rqh.identity
    label := d.label
    rateCode := s.rqh.config.rateCode
    openCause := d.openCause
    sealCause := cause
    grade := d.grade
    expectedCount := d.expected.length
    expectedPresent := d.expectedPresent
    cellCount := d.present.length
    heldCount := entries.countP SetEntry.isHeld
    entries := entries }

/-- What an entry's fixing does to its stream's record: the hold value offer, the age, the counter (06 R129). -/
def SetEntry.fix (e : SetEntry) (r : StreamRec) : StreamRec :=
  match e.body with
  | .present x =>
    let r' := r.offerHold x
    { r' with counters := { r'.counters with present := satInc r'.counters.present } }
  | .held _ age =>
    { r with
      hold := r.hold.map fun v => { v with age := min age 15 }
      counters := { r.counters with held := satInc r.counters.held } }
  | .absent => { r with counters := { r.counters with absent := satInc r.counters.absent } }

/-- The SET of the offered slot is fixed and starts; the cursor becomes SENDING (06 R122). -/
def startSet (s : State) : State :=
  if s.canStart .set then
    match s.sem.cursor with
    | .offered pos label =>
      match s.slotAt pos with
      | .sealed cause d =>
        let rec0 := s.setRecord cause d
        let t := rec0.entries.foldl (fun u e => u.modStream e.stream e.fix) s
        let t := { t with sem := { t.sem with cursor := .sending pos label, record := some rec0 } }
        startMessage .set 0 rec0.bytes t
      | .vacant | .opened _ => s
    | .idle | .sending .. => s
  else s

/-- SET_START. -/
def execSetStart (s : State) : Host.Outcome State Fault Refusal := .next (startSet s)

/-- The Set Emitter's part of an emission end (06 R131). -/
def endEmission (s : State) : State :=
  bufferEmissionEnd
    { s with sem := { s.sem with cursor := .idle, record := none, setsSent := satInc s.sem.setsSent } }

/-- SET_EMISSION_END. -/
def execSetEmissionEnd (s : State) : Host.Outcome State Fault Refusal := .next (endMessage .set endEmission s)

/-! ### LATE (06 R135, R136) -/

/-- The LATE message of the head entry starts; the unit identity is read here (06 R135). -/
def startLate (s : State) : State :=
  if s.canStart .late then
    match s.sem.late with
    | [] => s
    | e :: _ => startMessage .late 0 (e.bytes s.rqh.identity) s
  else s

/-- LATE_START. -/
def execLateStart (s : State) : Host.Outcome State Fault Refusal := .next (startLate s)

/-- The head entry is removed and LATE_SENT rises (06 R135). -/
def endLate (s : State) : State :=
  { s with sem := { s.sem with late := s.sem.late.tail, lateSent := satInc s.sem.lateSent } }

/-- LATE_END. -/
def execLateEnd (s : State) : Host.Outcome State Fault Refusal := .next (endMessage .late endLate s)

/-! ### HRDY (07 R156) -/

/-- HRDY_FALL: a message in transmission pauses when it reaches its next byte boundary. -/
def execHrdyFall (s : State) : Host.Outcome State Fault Refusal := .next { s with pins := { s.pins with hrdy := false } }

/-- HRDY rises: a paused message resumes with its next byte (log 29), in the event itself on a falling edge of LTXC, else on
the next one (`txCycle`; DESIGN CHOICE, log 35). -/
def raiseHrdy (s : State) : State :=
  let t := { s with pins := { s.pins with hrdy := true } }
  match s.lki.tx with
  | some m => if m.paused then beginAtEdge m t else t
  | none => t

/-- HRDY_RISE. -/
def execHrdyRise (s : State) : Host.Outcome State Fault Refusal := .next (raiseHrdy s)

end Sys2Proof.Machine
end

