-- ==== Sys2Proof/Machine/Requests.lean ====
section
/-! DEFINITION. The Request Handler (08): LENGTH_NOTE_REPLY, EMPTY_PAYLOAD_REQUEST, BAD_KIND and every request but
SOFT_RESET. A request's body acts on its payload after the kind byte and gives its answer. -/

namespace Sys2Proof.Machine

/-! ### Requests whose kind decides (08 R162) -/

/-- The head is answered with a refusal and freed. -/
def refuseHead (tag kind : Byte) (status : Status) (s : State) : State :=
  (s.answer tag kind (.refuse status 0)).freeHead

/-- The length note at the head is answered (07 R149, 08 R162). -/
def answerLengthNote (s : State) : State :=
  match s.lki.inbound.head? with
  | some (.lengthNote tag) => if s.headReady then refuseHead tag 0x00 .badLength s else s
  | _ => s

/-- LENGTH_NOTE_REPLY. -/
def execLengthNoteReply (s : State) : Host.Outcome State Fault Refusal := .next (answerLengthNote s)

/-- The REQUEST with an empty payload at the head is answered (08 R162). -/
def answerEmpty (s : State) : State :=
  match s.lki.inbound.head? with
  | some (.request tag []) => if s.headReady then refuseHead tag 0x00 .badLength s else s
  | _ => s

/-- EMPTY_PAYLOAD_REQUEST. -/
def execEmptyPayloadRequest (s : State) : Host.Outcome State Fault Refusal := .next (answerEmpty s)

/-- The REQUEST of unknown kind at the head is answered with its kind as received (08 R162). -/
def answerBadKind (s : State) : State :=
  match s.lki.inbound.head? with
  | some (.request tag (k :: _)) => if !kindKnown k && s.headReady then refuseHead tag k .badKind s else s
  | _ => s

/-- BAD_KIND. -/
def execBadKind (s : State) : Host.Outcome State Fault Refusal := .next (answerBadKind s)

/-! ### Identity (08 R165, R166) -/

/-- The body of an IDENTIFY reply (08 R165, 10 R206). -/
def identifyBody (s : State) : List Byte :=
  be 2 0x0E71 ++ be 2 716 ++ be 1 1 ++ be 2 s.rqh.identity ++ be 1 (flagBits [s.rqh.idWritten, s.tbu.policy.written])
    ++ be 1 s.straps.bits ++ be 2 Config.streams ++ be 1 Config.slots ++ be 2 Config.cells ++ be 1 Config.inbound
    ++ be 2 Config.payloadLimit ++ be 1 Config.notices ++ be 1 Config.lateCells

/-- IDENTIFY. -/
def execIdentify (s : State) : Host.Outcome State Fault Refusal :=
  .next (serve 0x01 (fun _ p t => ofLength 0 p t (t, .ok (identifyBody t))) s)

/-- SET_IDENTITY of a value (08 R166). -/
def setIdentity (v : Nat) (s : State) : State × Answer :=
  if v = 0 then (s, .refuse .badValue 1)
  else if s.rqh.idWritten then (s, .refuse .alreadySet 0)
  else ({ s with rqh := { s.rqh with identity := v, idWritten := true } }, .ok (be 2 v))

/-- SET_IDENTITY. -/
def execSetIdentity (s : State) : Host.Outcome State Fault Refusal :=
  .next (serve 0x02 (fun _ p t => ofLength 2 p t (setIdentity (field p 0 2) t)) s)

/-! ### The configuration (08 R167 to R169) -/

/-- CONFIGURE's numeric fields as sent, in milliseconds and microseconds (10 R204). -/
structure ConfigureFields where
  wFixed : Nat
  wMin : Nat
  wMax : Nat
  margin : Nat
  tSnap : Nat
  tFuture : Nat
  deriving DecidableEq, Repr

/-- The numeric fields of a CONFIGURE payload. -/
def readConfigure (p : List Byte) : ConfigureFields :=
  ⟨field p 2 2, field p 4 2, field p 6 2, field p 8 2, field p 10 2, field p 12 2⟩

/-- The effective numeric values: each clamped, then W_max raised to W_min (08 R168). -/
def ConfigureFields.effective (q : ConfigureFields) : ConfigureFields where
  wFixed := clampNat 1 2000 q.wFixed
  wMin := clampNat 1 2000 q.wMin
  wMax := max (clampNat 1 2000 q.wMin) (clampNat 1 2000 q.wMax)
  margin := clampNat 0 500 q.margin
  tSnap := clampNat 0 1000 q.tSnap
  tFuture := clampNat 0 5000 q.tFuture

/-- The clamp marks: which numeric values differ from what was sent (08 R168, 10 R206). -/
def ConfigureFields.marks (q : ConfigureFields) : List Bool :=
  let e := q.effective
  [e.wFixed != q.wFixed, e.wMin != q.wMin, e.wMax != q.wMax, e.margin != q.margin, e.tSnap != q.tSnap,
    e.tFuture != q.tFuture]

/-- A configuration in request order and widths (10 R206). -/
def Configuration.bytes (g : Configuration) : List Byte :=
  be 1 g.rateCode ++ be 1 g.mode.code ++ be 2 g.wFixed ++ be 2 g.wMin ++ be 2 g.wMax ++ be 2 g.margin ++ be 2 g.tSnap
    ++ be 2 g.tFuture ++ be 1 g.late.code

/-- The configuration takes a value; a changed output rate code makes the newest ticked label absent, and the next change of
local time delivers the tick it then calls for (08 R168, 01 R18; log 18). -/
def writeConfiguration (g : Configuration) (s : State) : State :=
  { s with
    rqh := { s.rqh with config := g }
    tbu :=
      if g.rateCode = s.rqh.config.rateCode then s.tbu else { s.tbu with newestTick := none, tickWaits := true } }

/-- The configuration that a CONFIGURE with valid codes writes. -/
def configurationOf (rate mode late : Nat) (q : ConfigureFields) : Configuration :=
  let e := q.effective
  { rateCode := rate
    mode := if mode = 0 then .fixed else .adaptive
    wFixed := e.wFixed
    wMin := e.wMin
    wMax := e.wMax
    margin := e.margin
    tSnap := e.tSnap
    tFuture := e.tFuture
    late := if late = 0 then .discard else .forward }

/-- CONFIGURE with its coded and its numeric fields (08 R168). -/
def configure (rate mode late : Nat) (q : ConfigureFields) (s : State) : State × Answer :=
  match s.alb.runState with
  | .running => (s, .refuse .wrongState 0)
  | .draining => (s, .refuse .busy 0)
  | .standby =>
    if 12 < rate then (s, .refuse .badValue 1)
    else if 1 < mode then (s, .refuse .badValue 2)
    else if 1 < late then (s, .refuse .badValue 9)
    else
      let g := configurationOf rate mode late q
      (writeConfiguration g s, .ok (g.bytes ++ be 1 (flagBits q.marks)))

/-- CONFIGURE. -/
def execConfigure (s : State) : Host.Outcome State Fault Refusal :=
  .next (serve 0x03
    (fun _ p t => ofLength 15 p t (configure (field p 0 1) (field p 1 1) (field p 14 1) (readConfigure p) t)) s)

/-! ### Time (01 R15, R19 to R21, 08 R170 to R173) -/

/-- TIME_POLICY with its three values (01 R20, 08 R170). -/
def timePolicy (code w miss : Nat) (s : State) : State × Answer :=
  if s.tbu.policy.written then (s, .refuse .alreadySet 0)
  else if 3 < code then (s, .refuse .badValue 1)
  else
    let w' := clampNat 1 5000 w
    let miss' := clampNat 1 8 miss
    ({ s with tbu := { s.tbu with policy := ⟨code, w', miss', true⟩ } },
      .ok (be 1 code ++ be 2 w' ++ be 1 miss' ++ be 1 (flagBits [w' != w, miss' != miss]) ++ be 2 (holdoverLimit code)))

/-- TIME_POLICY. -/
def execTimePolicy (s : State) : Host.Outcome State Fault Refusal :=
  .next (serve 0x04 (fun _ p t => ofLength 4 p t (timePolicy (field p 0 1) (field p 1 2) (field p 3 1) t)) s)

/-- The second that TIME_LABEL and TIME_QUERY report, with its kind: 1 the pending label, 2 the current second, 0 none
(10 R206). -/
def Tbu.reported (t : Tbu) : Nat × Second :=
  match t.tstate with
  | .unset => (0, ⟨0, false⟩)
  | .acquiring => (1, t.pendingLabel.getD ⟨0, false⟩)
  | .locked | .holdover | .free => (2, t.second)

/-- The body of an OK reply to TIME_LABEL (08 R171, 10 R206). -/
def labelReply (s : State) : List Byte :=
  be 1 s.tbu.tstate.code ++ be 1 s.tbu.reported.1 ++ be 4 s.tbu.reported.2.label.toNat
    ++ be 1 s.tbu.reported.2.inserted.toNat

/-- The pending label becomes (S, clear); a pending leap event whose second is earlier than S is discarded (01 R14,
R19; log 21). -/
def setPendingLabel (x : SecondLabel) (s : State) : State :=
  { s with
    tbu := { s.tbu with
      pendingLabel := some ⟨x, false⟩
      leaps := { s.tbu.leaps with
        pending := s.tbu.leaps.pending.filter fun e => !s.leaps.later ⟨e.second, false⟩ ⟨x, false⟩ } } }

/-- ACQUIRING is entered with a pending label: the newest ticked label becomes absent, TIME_STATE is posted with the
pending label (01 R12, R18, R19). -/
def enterAcquiring (x : SecondLabel) (s : State) : State :=
  let t := setPendingLabel x s
  post (.timeState s.tbu.tstate .acquiring x)
    { t with tbu := { t.tbu with tstate := .acquiring, newestTick := none } }

/-- Forced ACQUIRING (01 R19). -/
def forceAcquiring (x : SecondLabel) (s : State) : State :=
  enterAcquiring x
    { s with tbu := { s.tbu with prevEdge := false, c := 0, missCount := 0, stepCount := 0, holdoverAge := 0 } }

/-- TIME_LABEL of a second (01 R19, 08 R171). -/
def timeLabel (x : SecondLabel) (s : State) : State × Answer :=
  if s.leaps.pending = some ⟨x, .del⟩ then (s, .refuse .badValue 1)
  else match s.tbu.tstate with
    | .unset => let t := enterAcquiring x s; (t, .ok (labelReply t))
    | .acquiring => let t := setPendingLabel x s; (t, .ok (labelReply t))
    | .locked | .holdover | .free =>
      if x = (s.leaps.succ s.tbu.second).label then (s, .ok (labelReply s))
      else match s.alb.runState with
        | .standby => let t := forceAcquiring x s; (t, .ok (labelReply t))
        | .running | .draining => (s, .refuse .wrongState 0)

/-- TIME_LABEL. -/
def execTimeLabel (s : State) : Host.Outcome State Fault Refusal :=
  .next (serve 0x05 (fun _ p t => ofLength 4 p t (timeLabel (BitVec.ofNat 32 (field p 0 4)) t)) s)

/-- The reference second of LEAP_SCHEDULE: the current second, or the pending label in ACQUIRING (01 R15). -/
def Tbu.reference (t : Tbu) : Second :=
  match t.tstate with
  | .acquiring => t.pendingLabel.getD ⟨0, false⟩
  | .unset | .locked | .holdover | .free => t.second

/-- A second is far enough ahead of the reference second (01 R15, first and second test; log 10). -/
def State.leapFarEnough (s : State) (x : SecondLabel) : Bool :=
  decide (2 ≤ s.leaps.dist s.tbu.reference ⟨x, false⟩)

/-- A second is beyond the alignment window (01 R15, third test). Outside a run there is no window. -/
def State.beyondWindow (s : State) (x : SecondLabel) : Bool :=
  match s.alb.runState, s.alb.base with
  | .running, some b | .draining, some b =>
    s.leaps.later ⟨(s.leaps.labelAdd s.fout 127 b).second.label, false⟩ ⟨x, false⟩
  | _, _ => true

/-- A last applied event's second is behind the alignment window (01 R15, fourth test). -/
def State.behindWindow (s : State) (x : SecondLabel) : Bool :=
  match s.alb.runState, s.alb.base with
  | .running, some b | .draining, some b => s.leaps.later ⟨x, false⟩ ⟨b.second.label, false⟩
  | _, _ => true

/-- The pending event, if any, may be replaced or cancelled (01 R15). -/
def State.pendingMovable (s : State) : Bool :=
  match s.leaps.pending with
  | none => true
  | some e => s.leapFarEnough e.second && s.beyondWindow e.second

/-- The last applied event, if any, may be replaced (01 R15). -/
def State.lastMovable (s : State) : Bool :=
  match s.leaps.last with
  | none => true
  | some e => s.behindWindow e.second

/-- The leap direction of a code; `none` stands for NONE (10 R201). -/
def leapDirOf (code : Nat) : Option LeapDir :=
  if code = 1 then some .ins else if code = 2 then some .del else none

/-- The leap records take a value. -/
def State.withLeaps (s : State) (r : Leaps) : State := { s with tbu := { s.tbu with leaps := r } }

/-- The body of a LEAP_SCHEDULE reply (10 R206). -/
def leapReply (r : Leaps) : List Byte := leapBytes r.pending ++ leapBytes r.last

/-- LEAP_SCHEDULE of a second and a direction code (01 R15, 08 R172). -/
def leapSchedule (x : SecondLabel) (code : Nat) (s : State) : State × Answer :=
  if 2 < code then (s, .refuse .badValue 2)
  else if s.tbu.tstate = .unset then (s, .refuse .wrongState 0)
  else match leapDirOf code with
    | none =>
      if s.pendingMovable then
        let r : Leaps := { s.leaps with pending := none }
        (s.withLeaps r, .ok (leapReply r))
      else (s, .refuse .tooLate 0)
    | some d =>
      if s.leapFarEnough x && s.beyondWindow x && s.pendingMovable && s.lastMovable then
        let r : Leaps := ⟨some ⟨x, d⟩, none⟩
        (s.withLeaps r, .ok (leapReply r))
      else (s, .refuse .tooLate 0)

/-- LEAP_SCHEDULE. -/
def execLeapSchedule (s : State) : Host.Outcome State Fault Refusal :=
  .next (serve 0x06
    (fun _ p t => ofLength 5 p t (leapSchedule (BitVec.ofNat 32 (field p 0 4)) (field p 4 1) t)) s)

/-- The body of a TIME_QUERY reply (08 R173, 10 R206). -/
def timeQueryBody (t : Tbu) : List Byte :=
  be 1 t.tstate.code ++ be 4 t.reported.2.label.toNat ++ be 1 t.reported.2.inserted.toNat
    ++ be 4 (if t.timeSet then t.ns else 0) ++ be 4 t.nSec ++ beS32 t.lastError ++ be 4 t.holdoverAge
    ++ be 1 t.grade.code ++ leapBytes t.leaps.pending ++ leapBytes t.leaps.last ++ be 1 t.flags.bits
    ++ be 6 t.uptime.toNat

/-- TIME_QUERY: the sticky flags are read and cleared as one act (01 R21). -/
def timeQuery (s : State) : State × Answer :=
  ({ s with tbu := { s.tbu with flags := .clear } }, .ok (timeQueryBody s.tbu))

/-- TIME_QUERY. -/
def execTimeQuery (s : State) : Host.Outcome State Fault Refusal :=
  .next (serve 0x07 (fun _ p t => ofLength 0 p t (timeQuery t)) s)

/-! ### Streams (03 R44 to R46, R69, 08 R174 to R176) -/

/-- The position of the first field of a STREAM_DEFINE out of its range, in the order of 03 R44 (log 12). -/
def DefineFields.badField (q : DefineFields) : Option Nat :=
  if Config.streams ≤ q.stream then some 1
  else if q.source = 0 ∨ 65534 < q.source then some 2
  else if 1 < q.fillCode then some 10
  else match q.layout with
    | none => none
    | some l =>
      if 12 < l.rateCode then some 4
      else if l.timeBase = 0 then some 5
      else if 12 < l.phasors then some 6
      else if 4 < l.analogs then some 7
      else if 2 < l.digitals then some 8
      else none

/-- The body of a STREAM_DEFINE reply (10 R206). -/
def defineReply (q : DefineFields) : List Byte :=
  let r := definedRecord q
  be 2 q.stream ++ be 1 r.holdLimit ++ be 1 r.errThreshold ++ be 1 r.silenceCount
    ++ be 1 (flagBits [r.holdLimit != q.holdLimit, r.errThreshold != q.errThreshold, r.silenceCount != q.silenceCount])
    ++ layoutBytes r.layout

/-- STREAM_DEFINE of read fields (03 R44). -/
def streamDefine (q : DefineFields) (s : State) : State × Answer :=
  match q.badField with
  | some n => (s, .refuse .badValue n)
  | none =>
    if (s.stream q.stream).state ≠ .disabled then (s, .refuse .wrongState 0)
    else if (s.lookupSource q.source).isSome then (s, .refuse .duplicateSource 0)
    else (s.modStream q.stream fun _ => definedRecord q, .ok (defineReply q))

/-- A STREAM_DEFINE payload: the length is judged by the layout mark (10 R205). -/
def defineRequest (p : List Byte) (s : State) : State × Answer :=
  if p.length < 5 then (s, .refuse .badLength 0)
  else if field p 4 1 = 0 then ofLength 10 p s (streamDefine (readDefine p) s)
  else if field p 4 1 = 1 then ofLength 17 p s (streamDefine (readDefine p) s)
  else (s, .refuse .badValue 3)

/-- STREAM_DEFINE. -/
def execStreamDefine (s : State) : Host.Outcome State Fault Refusal := .next (serve 0x08 (fun _ => defineRequest) s)

/-- STREAM_ENABLE of a stream (03 R45, 08 R175). -/
def streamEnable (n : Nat) (s : State) : State × Answer :=
  if Config.streams ≤ n then (s, .refuse .badValue 1)
  else if (s.stream n).source = 0 ∨ (s.stream n).state ≠ .disabled then (s, .refuse .wrongState 0)
  else if (s.lookupSource (s.stream n).source).isSome then (s, .refuse .duplicateSource 0)
  else (enableStream n s, .ok (be 2 n ++ be 1 (s.stream n).enabledState.code))

/-- STREAM_ENABLE. -/
def execStreamEnable (s : State) : Host.Outcome State Fault Refusal :=
  .next (serve 0x09 (fun _ p t => ofLength 2 p t (streamEnable (field p 0 2) t)) s)

/-- STREAM_DISABLE of a stream (03 R46, 08 R175). -/
def streamDisable (n : Nat) (s : State) : State × Answer :=
  if Config.streams ≤ n then (s, .refuse .badValue 1)
  else if (s.stream n).state = .disabled then (s, .refuse .wrongState 0)
  else (disableStream n s, .ok (be 2 n ++ be 1 (s.stream n).state.code))

/-- STREAM_DISABLE. -/
def execStreamDisable (s : State) : Host.Outcome State Fault Refusal :=
  .next (serve 0x0A (fun _ p t => ofLength 2 p t (streamDisable (field p 0 2) t)) s)

/-- A path in the STREAM_QUERY body, 22 bytes (10 R206). -/
def pathBytes (now : Uptime) (q : PathRec) : List Byte :=
  be 1 q.up.toNat ++ be 1 q.last.isSome.toNat ++ be 6 (q.last.getD 0).toNat
    ++ be 6 (if q.up then (q.last.map fun l => elapsed l now).getD 0 else 0) ++ be 4 q.lead ++ be 4 q.dup

/-- The counters in the order of the table of 03 R68, 104 bytes. -/
def StreamCounters.bytes (c : StreamCounters) : List Byte :=
  [c.good, c.noLayout, c.malformed, c.timeFormat, c.badLeap, c.offGrid, c.regression, c.future, c.decimated,
    c.standbyDiscard, c.placed, c.duplicate, c.ahead, c.poolFull, c.preStart, c.late, c.lateDropped, c.present, c.held,
    c.absent, c.nominalMismatch, c.layoutConfirm, c.layoutMismatch, c.layoutLearned, c.faultEntries,
    c.silentEntries].flatMap (be 4)

/-- The newest accepted instant in the STREAM_QUERY body, 11 bytes. -/
def newestBytes : Option Newest → List Byte
  | none => be 11 0
  | some m => be 1 1 ++ be 4 m.second.label.toNat ++ be 1 m.second.inserted.toNat ++ be 1 m.index ++ be 4 m.grid

/-- The body of a STREAM_QUERY reply (03 R69, 08 R176, 10 R206). -/
def streamQueryBody (n : Nat) (now : Uptime) (r : StreamRec) : List Byte :=
  be 2 n ++ be 2 r.source ++ be 1 r.state.code ++ layoutBytes r.layout ++ be 1 r.rotate.toNat ++ be 1 r.fill.code
    ++ be 1 r.holdLimit ++ be 1 r.errThreshold ++ be 1 r.silenceCount
    ++ be 1 r.errCount ++ be 1 r.goodCount ++ be 1 r.seqFlag.toNat
    ++ newestBytes r.newest
    ++ be 4 (r.silenceLimit.getD 0)
    ++ pathBytes now r.pathA ++ pathBytes now r.pathB
    ++ be 1 r.lhat.isSome.toNat ++ be 4 (r.lhat.getD 0) ++ be 1 r.seedMark.toNat ++ be 4 r.latencyMax
    ++ be 1 r.hold.isSome.toNat ++ be 1 ((r.hold.map (·.age)).getD 0)
    ++ r.counters.bytes

/-- STREAM_QUERY of a stream with an option code (03 R69, 08 R176). -/
def streamQuery (n option : Nat) (s : State) : State × Answer :=
  if Config.streams ≤ n then (s, .refuse .badValue 1)
  else if 1 < option then (s, .refuse .badValue 2)
  else
    (s.modStream n fun r =>
        let r' := { r with mismatchArmed := true }
        if option = 1 then r'.clearCounts else r',
      .ok (streamQueryBody n s.tbu.uptime (s.stream n)))

/-- STREAM_QUERY. -/
def execStreamQuery (s : State) : Host.Outcome State Fault Refusal :=
  .next (serve 0x0B (fun _ p t => ofLength 3 p t (streamQuery (field p 0 2) (field p 2 1) t)) s)

/-! ### Runs (05 R90, R91, 08 R177, R178) -/

/-- The body of an ALIGN_START reply (08 R177, 10 R206). -/
def startedBody (s : State) : List Byte :=
  (match s.alb.start with | some l => l.bytes | none => []) ++ be 1 s.rqh.config.rateCode ++ be 1 s.tbu.grade.code

/-- ALIGN_START (05 R90). -/
def alignStart (s : State) : State × Answer :=
  match s.alb.runState with
  | .running => (s, .refuse .wrongState 0)
  | .draining => (s, .refuse .busy 0)
  | .standby =>
    match s.tbu.localTime with
    | none => (s, .refuse .wrongState 0)
    | some now => let t := startRun now s; (t, .ok (startedBody t))

/-- ALIGN_START. -/
def execAlignStart (s : State) : Host.Outcome State Fault Refusal :=
  .next (serve 0x0C (fun _ p t => ofLength 0 p t (alignStart t)) s)

/-- ALIGN_STOP (05 R91, 08 R178). -/
def alignStop (tag : Byte) (s : State) : State × Answer :=
  match s.alb.runState with
  | .standby => (s, .ok (stoppedBody s))
  | .running => (stopRun tag s, .deferred)
  | .draining => (s, .refuse .busy 0)

/-- ALIGN_STOP. -/
def execAlignStop (s : State) : Host.Outcome State Fault Refusal :=
  .next (serve 0x0D (fun tag p t => ofLength 0 p t (alignStop tag t)) s)

/-! ### BUFFER_QUERY (08 R180, R181) -/

/-- The Alignment Buffer's part of the body, 60 bytes. -/
def Alb.bytes (a : Alb) : List Byte :=
  be 1 a.runState.code ++ optLabelBytes a.start ++ optLabelBytes a.base ++ optLabelBytes a.frontier
    ++ be 1 (a.slots.countP Slot.isOpen) ++ be 1 (a.slots.countP Slot.isSealed) ++ be 2 a.free.length ++ be 2 a.lowWater
    ++ be 4 a.openedTick ++ be 4 a.openedFrame ++ be 4 a.sealedComplete ++ be 4 a.sealedDeadline ++ be 4 a.sealedHorizon
    ++ be 4 a.sealedPool ++ be 4 a.sealedDrain ++ be 4 a.drainSkipped

/-- The label of the offered slot, six bytes, each 0 while the cursor is IDLE (06 R141, 10 R199). -/
def Cursor.labelBytes : Cursor → List Byte
  | .idle => be 6 0
  | .offered _ l => l.bytes
  | .sending _ l => l.bytes

/-- The Set Emitter's part of the body, 16 bytes. -/
def Sem.bytes (e : Sem) : List Byte :=
  be 4 e.setsSent ++ be 4 e.lateSent ++ be 1 e.late.length ++ be 1 e.cursor.code ++ e.cursor.labelBytes

/-- The Frame Checker's part of the body, 16 bytes. -/
def Fck.bytes (f : Fck) : List Byte := be 4 f.malformed ++ be 4 f.checkError ++ be 4 f.badPath ++ be 4 f.unknownSource

/-- The Link Interface's part of the body, 31 bytes. The query itself, at the head of the queue, is not counted. -/
def Lki.bytes (l : Lki) : List Byte :=
  be 4 l.headerError ++ be 4 l.unknownClass ++ be 4 l.tooLong ++ be 4 l.truncated ++ be 4 l.checkError ++ be 4 l.overrun
    ++ be 4 l.accepted ++ be 1 (l.inbound.length - 1) ++ be 1 l.replies.length ++ be 1 l.creditLast

/-- The body of a BUFFER_QUERY reply, 130 bytes. -/
def bufferQueryBody (s : State) : List Byte :=
  s.alb.bytes ++ s.sem.bytes ++ s.fck.bytes ++ s.lki.bytes ++ be 1 s.ntq.records.length ++ be 4 s.ntq.lost
    ++ be 1 s.rqh.deferred.isSome.toNat ++ be 1 (s.rqh.deferred.getD 0).toNat

/-- The three notice marks are armed (08 R181). -/
def armMarks (s : State) : State :=
  { s with
    fck := { s.fck with armed := true }
    alb := { s.alb with pressureArmed := true }
    lki := { s.lki with overrunArmed := true } }

/-- The buffer's counters at 0. -/
def Alb.zeroCounts (a : Alb) : Alb :=
  { a with
    openedTick := 0, openedFrame := 0, sealedComplete := 0, sealedDeadline := 0, sealedHorizon := 0, sealedPool := 0
    sealedDrain := 0, drainSkipped := 0 }

/-- The link's counters at 0. -/
def Lki.zeroCounts (l : Lki) : Lki :=
  { l with
    headerError := 0, unknownClass := 0, tooLong := 0, truncated := 0, checkError := 0, overrun := 0, accepted := 0 }

/-- The twenty-one part-wide counters become 0 and the low-water mark the free count (08 R181). -/
def clearPartCounts (s : State) : State :=
  { s with
    alb := { s.alb.zeroCounts with lowWater := s.alb.free.length }
    sem := { s.sem with setsSent := 0, lateSent := 0 }
    fck := { s.fck with malformed := 0, checkError := 0, badPath := 0, unknownSource := 0 }
    lki := s.lki.zeroCounts }

/-- BUFFER_QUERY with an option code (08 R180, R181). -/
def bufferQuery (option : Nat) (s : State) : State × Answer :=
  if 1 < option then (s, .refuse .badValue 1)
  else
    let t := armMarks s
    (if option = 1 then clearPartCounts t else t, .ok (bufferQueryBody s))

/-- BUFFER_QUERY. -/
def execBufferQuery (s : State) : Host.Outcome State Fault Refusal :=
  .next (serve 0x0E (fun _ p t => ofLength 1 p t (bufferQuery (field p 0 1) t)) s)

end Sys2Proof.Machine
end

