-- ==== Sys2Proof/Machine/Reset.lean ====
section
/-! DEFINITION. The resets: PIN_RESET and STARTUP_END (07 R158, 09 R192, 01 R22), SOFT_RESET (08 R182 to R184). -/

namespace Sys2Proof.Machine

/-! ### Pin reset -/

/-- The straps of five levels (00_scope). -/
def strapsOf (nomf ppspol outr2 outr1 outr0 : Bool) : Straps := ⟨nomf, ppspol, flagBits [outr0, outr1, outr2]⟩

/-- Every block takes its pin reset values and the straps are latched (01 R22, 02 R41, 03 R70, 05 R119, 06 R140,
07 R158, 08 R184, 09 R194). The input pins keep their levels; the queue of commands is not the part's. -/
def pinReset (x : Straps) (s : State) : State :=
  { State.reset with
    pending := s.pending
    pins := s.pins
    straps := x
    rqh := { Rqh.reset with config := Configuration.defaults x.outr }
    fresh := s.fresh }

/-- PIN_RESET. -/
def execPinReset (nomf ppspol outr2 outr1 outr0 : Bool) (s : State) : Host.Outcome State Fault Refusal :=
  .next (pinReset (strapsOf nomf ppspol outr2 outr1 outr0) s)

/-- Start-up ends: the gate opens and RESET_DONE is posted (07 R158, 09 R192). -/
def endStartup (s : State) : State :=
  match s.lki.gate with
  | .closed => postResetDone .pin 0 { s with lki := { s.lki with gate := .opened } }
  | .opened | .resetting => s

/-- STARTUP_END. -/
def execStartupEnd (s : State) : Host.Outcome State Fault Refusal := .next (endStartup s)

/-! ### SOFT_RESET, step by step (08 R182) -/

/-- A LATE message is in transmission; it is that of the first entry (06 R135). -/
def State.lateSending (s : State) : Bool :=
  match s.lki.tx with
  | some m => m.cls == .late
  | none => false

/-- Step 1: every outbound message not yet begun is discarded (06 R139, 07 R159, 09 R193). -/
def discardOutput (s : State) : State :=
  { s with
    lki := { s.lki with replies := [], flowPending := false }
    ntq := ⟨if s.noticeSending then s.ntq.records.take 1 else [], 0⟩
    sem := { s.sem with
      cursor := match s.sem.cursor with
        | .sending pos l => .sending pos l
        | .idle | .offered .. => .idle
      late := if s.lateSending then s.sem.late.take 1 else [] } }

/-- Step 2: a held deferred reply is placed with status ABORTED in the kept place (06 R138). -/
def abortDeferred (s : State) : State :=
  match s.rqh.deferred with
  | none => s
  | some tag =>
    { (s.placeReply ⟨true, tag, replyPayload 0x0D .aborted 0 []⟩) with rqh := { s.rqh with deferred := none } }

/-- The cell numbers a slot holds. -/
def Slot.numbers : Slot → List Nat
  | .vacant => []
  | .opened d | .sealed _ d => d.present.map (·.number)

/-- Step 5, the Alignment Buffer: pin reset's values, but for a slot whose SET is in transmission (05 R120). -/
def resetBuffer (s : State) : Alb :=
  match s.sem.cursor with
  | .idle | .offered .. => .reset
  | .sending pos _ =>
    let kept := s.slotAt pos
    { Alb.reset with
      start := s.alb.start
      base := s.alb.base
      basePos := s.alb.basePos
      slots := Alb.reset.slots.set pos kept
      free := Alb.reset.free.filter fun n => !kept.numbers.contains n }

/-- Step 5 whole: the Stream Table, the buffer, the Set Emitter's counts, the Frame Checker. -/
def resetBlocks (s : State) : State :=
  { s with
    streams := List.replicate Config.streams .reset
    sourceMap := []
    alb := resetBuffer s
    sem := { s.sem with setsSent := 0, lateSent := 0 }
    fck := .reset }

/-- A message in hand at the reset is passed over (07 R160). -/
def RxMode.underReset : RxMode → RxMode
  | .hunt => .hunt
  | .header got => .header got
  | .payload _ _ left _ => .skip left none
  | .skip left _ => .skip left none

/-- The message in hand has a good header. -/
def RxMode.pastHeader : RxMode → Bool
  | .hunt | .header _ => false
  | .payload .. | .skip .. => true

/-- Step 6: the inbound queue is flushed into the discard count and the gate becomes RESETTING (07 R159, R160; log 8). -/
def flushInbound (s : State) : State :=
  let inHand := Config.discardAtHeader && s.lki.rxMode.pastHeader
  { s with
    lki := { s.lki.zeroCounts with
      gate := .resetting
      rxMode := s.lki.rxMode.underReset
      rxUnderReset := s.lki.rxMode != .hunt
      inbound := []
      overrunArmed := true
      discard := s.lki.inbound.length - 1 + inHand.toNat } }

/-- The execution event of a SOFT_RESET (08 R182). -/
def softReset (tag : Byte) (s : State) : State :=
  let t := abortDeferred (discardOutput s)
  let t := t.placeReply ⟨false, tag, replyPayload 0x0F .ok 0 []⟩
  let t := writeConfiguration (Configuration.defaults t.straps.outr) t
  flushInbound (resetBlocks t)

/-- The SOFT_RESET at the head is taken; one of a wrong length is answered BAD_LENGTH (08 R162; log 19). -/
def takeSoftReset (s : State) : State :=
  match s.requestOf 0x0F with
  | none => s
  | some (tag, p) => if p = [] then softReset tag s else refuseHead tag 0x0F .badLength s

/-- SOFT_RESET. -/
def execSoftReset (s : State) : Host.Outcome State Fault Refusal := .next (takeSoftReset s)

end Sys2Proof.Machine
end

