-- ==== Sys2Proof/Machine/Time.lean ====
section
/-! DEFINITION. The Time Base Unit's events (01): the REFCLK cycle, PPS_EDGE, SECOND_ROLLOVER, PPS_MISSED,
OUTPUT_GRID_TICK, DEADLINE_ARRIVAL. -/

namespace Sys2Proof.Machine

/-! ### Ticks (01 R17) -/

/-- The label a tick is due for: the latest label at or before local time, when it is later than the newest ticked one
in succession (01 R13, R17). After a changed Fout none is due until local time changes (01 R18, 08 R168; log 18). -/
def State.tickDue (s : State) : Option Label :=
  match s.tbu.localTime with
  | none => none
  | some t =>
    let l := latestLabel s.fout t
    match s.tbu.newestTick with
    | none => if s.tbu.tickWaits then none else some l
    | some m => if s.leaps.labelLater m l then some l else none

/-- The tick that is due is delivered (01 R17, 05 R96). -/
def deliverTick (s : State) : State :=
  match s.tickDue with
  | none => s
  | some l => bufferTick l { s with tbu := { s.tbu with newestTick := some l } }

/-- A tick that waits for local time to change stops waiting when local time is no longer what it was (01 R18). -/
def endTickWait (old : Option Instant) (s : State) : State :=
  { s with tbu := { s.tbu with tickWaits := s.tbu.tickWaits && decide (s.tbu.localTime = old) } }

/-- Local time has jumped, from `old`: the deadlines it has reached seal their slots and the tick it calls for is delivered,
as one event of the Time Base Unit (05 R111; log 24). -/
def localTimeChanged (old : Option Instant) (s : State) : State := deliverTick (sealDue (endTickWait old s))

/-! ### Seconds (01 R5, R13, R14) -/

/-- The pending event is applied by the advance from `x` to its successor (01 R14). -/
def Leaps.applies (r : Leaps) (x : Second) : Option LeapEvent :=
  match r.pending with
  | some ⟨y, .ins⟩ => if x = ⟨y, false⟩ ∧ r.succ x = ⟨y, true⟩ then some ⟨y, .ins⟩ else none
  | some ⟨y, .del⟩ => if x = ⟨y - 1, false⟩ ∧ r.succ x = ⟨y + 1, false⟩ then some ⟨y, .del⟩ else none
  | none => none

/-- The leap records as an advance past `x` leaves them, with LEAP_APPLIED and the LEAP notice when it applies the
pending event (01 R14). -/
def applyLeap (x : Second) (s : State) : State :=
  match s.leaps.applies x with
  | none => s
  | some e =>
    post (.leap e.dir e.second)
      { s with
        tbu := { s.tbu with leaps := ⟨none, some e⟩, flags := { s.tbu.flags with leapApplied := true } } }

/-- The TBU enters a time state other than ACQUIRING, with its TIME_STATE notice (01 R12). -/
def enterState (new : TimeState) (s : State) : State :=
  post (.timeState s.tbu.tstate new s.tbu.second.label) { s with tbu := { s.tbu with tstate := new } }

/-- The rollover of 01 R5: c becomes 0, the label advances, the window opens (or is already matched by the edge that
brought it forward), and in HOLDOVER and FREE the age advances. -/
def rollover (matched : Bool) (s : State) : State :=
  let x := s.tbu.second
  let t := { s with
    tbu := { s.tbu with
      c := 0
      second := s.leaps.succ x
      window := if matched then .matched else .opened
      windowW := s.tbu.policy.w
      holdoverAge :=
        match s.tbu.tstate with
        | .holdover | .free => satInc s.tbu.holdoverAge
        | .unset | .acquiring | .locked => s.tbu.holdoverAge } }
  applyLeap x t

/-- After a self-timed rollover in HOLDOVER, an age at the limit enters FREE (01 R10). -/
def freeAtLimit (s : State) : State :=
  if s.tbu.tstate = .holdover ∧ holdoverLimit s.tbu.policy.limitCode ≤ s.tbu.holdoverAge then enterState .free s else s

/-! ### The REFCLK cycle (01 R1, R2, R3, R8) -/

/-- What every cycle does whatever becomes of the second: the microsecond and the candidate interval count, the transmitter
goes on, and a tick that waited for local time to change waits no longer (01 R18). -/
def commonCycle (s : State) : State :=
  let wrap := decide (49 ≤ s.tbu.usPhase)
  txCycle { s with
    tbu := { s.tbu with
      usPhase := if wrap then 0 else s.tbu.usPhase + 1
      uptime := if wrap then s.tbu.uptime + 1 else s.tbu.uptime
      candInterval := min (s.tbu.candInterval + 1) Config.countStop
      tickWaits := false } }

/-- The next cycle ends the second: c reaches N_sec on it (01 R1, R5). -/
def State.rolloverDue (s : State) : Bool := s.tbu.timeSet && decide (s.tbu.nSec ≤ s.tbu.c + 1)

/-- A cycle that does not end the second: c counts, and before lock it stops at 50,010,001 (01 R1, R3). -/
def plainCycle (s : State) : State :=
  let c := if s.tbu.timeSet then s.tbu.c + 1 else min (s.tbu.c + 1) Config.countStop
  commonCycle { s with tbu := { s.tbu with c := c } }

/-- The cycle on which c reaches N_sec: the self-timed rollover (01 R5, R10). DESIGN CHOICE (log 39): the tick comes after
the holdover age and the entry to FREE, so the slots it opens take the grade these leave (01 R11, R17, 05 R97). DESIGN CHOICE
(log 40): the cycle's own counts come first, so on a cycle that also ends a microsecond the notices carry the new uptime (01
R2, 09 R186). DESIGN CHOICE (log 43): all of the rollover comes before any other event the same cycle makes due, so its
notices meet the queue before the end of a NOTICE on that cycle frees a place (09 R187). -/
def rolloverCycle (s : State) : State :=
  localTimeChanged s.tbu.localTime (freeAtLimit (rollover false (commonCycle s)))

/-- SECOND_ROLLOVER (log 3). -/
def execSecondRollover (s : State) : Host.Outcome State Fault Refusal :=
  .next (if s.rolloverDue then rolloverCycle s else s)

/-! ### PPS edges (01 R3, R4, R6, R8, R9) -/

/-- A measured interval within N_nom ± 10,000 counts. -/
def inRange (interval : Nat) : Bool := decide (Config.nMin ≤ interval) && decide (interval ≤ Config.nMax)

/-- An edge in UNSET (01 R3). -/
def unsetEdge (s : State) : State := { s with tbu := { s.tbu with prevEdge := true, c := 0 } }

/-- The edge of ACQUIRING that locks, given the label `x` (01 R4). -/
def lockAt (x : Second) (interval : Nat) (s : State) : State :=
  let t := { s with
    tbu := { s.tbu with
      c := 0
      second := x
      nSec := interval
      lastError := 0
      missCount := 0
      stepCount := 0
      holdoverAge := 0
      pendingLabel := none
      window := .matched
      windowW := s.tbu.policy.w } }
  enterState .locked t

/-- An edge in ACQUIRING: it consumes the pending label, which advances (01 R4). -/
def acquiringEdge (s : State) : State :=
  match s.tbu.pendingLabel with
  | none => s
  | some x =>
    let interval := s.tbu.c
    let had := s.tbu.prevEdge
    let t := applyLeap x { s with tbu := { s.tbu with pendingLabel := some (s.leaps.succ x) } }
    if had && inRange interval then localTimeChanged s.tbu.localTime (lockAt x interval t)
    else
      let f := t.tbu.flags
      { t with tbu := { t.tbu with prevEdge := true, c := 0, flags := { f with ppsRejected := f.ppsRejected || had } } }

/-- N_sec follows the phase error `d`, clamped (01 R6). -/
def correctLength (d : Int) (t : Tbu) : Tbu :=
  let n := (t.nSec : Int) + d
  let m := max (Config.nMin : Int) (min (Config.nMax : Int) n)
  { t with
    nSec := m.toNat
    lastError := d
    flags := { t.flags with lengthClamped := t.flags.lengthClamped || decide (m ≠ n) } }

/-- What every accepted edge ends with: the length follows, the counts are 0, the window is matched, and HOLDOVER or FREE
becomes LOCKED (01 R6, R10). `old` is the time state at the edge. -/
def acceptEdge (d : Int) (s : State) : State :=
  let t := { s with
    tbu := { correctLength d s.tbu with
      missCount := 0
      stepCount := 0
      window := .matched } }
  if t.tbu.tstate = .locked then t
  else enterState .locked { t with tbu := { t.tbu with holdoverAge := 0 } }

/-- An early edge inside the window of the coming rollover (01 R6). -/
def State.earlyEdge (s : State) : Bool := decide (s.tbu.nSec - s.tbu.c ≤ s.tbu.policy.w)

/-- A late edge inside the unmatched window of the last rollover (01 R6). -/
def State.lateEdge (s : State) : Bool := decide (s.tbu.c ≤ s.tbu.windowW) && s.tbu.window != .matched

/-- The step candidate count after a rejected edge (01 R8). -/
def Tbu.candidates (t : Tbu) : Nat := if t.stepCount ≠ 0 ∧ inRange t.candInterval then t.stepCount + 1 else 1

/-- The phase step Δ of an edge at count c (01 R9). -/
def Tbu.stepDelta (t : Tbu) : Int :=
  if 2 * t.c ≤ t.nSec then (t.c : Int) else (t.c : Int) - (t.nSec : Int)

/-- The second restarted by a step with Δ at or above 0; what becomes of its window is a free value (log 7, log 20). -/
def restartSecond (s : State) : State :=
  { s with
    tbu := { s.tbu with c := 0, window := Config.lateStepWindow s.fresh }
    fresh := s.fresh + 1 }

/-- The third consistent candidate edge steps the clock (01 R9). DESIGN CHOICE (log 39): the tick comes after the entry to
LOCKED, so the slots it opens take grade A (01 R11, R17, 05 R97). -/
def phaseStep (s : State) : State :=
  let delta := s.tbu.stepDelta
  let interval := s.tbu.candInterval
  let old := s.tbu.tstate
  let t := if delta < 0 then rollover true s else restartSecond s
  let t := { t with
    tbu := { t.tbu with
      nSec := interval
      lastError := delta
      missCount := 0
      stepCount := 0
      candInterval := 0
      holdoverAge := 0
      flags := { t.tbu.flags with stepped := true, ppsRejected := true } } }
  let t := post (.timeStep delta) t
  localTimeChanged s.tbu.localTime (if old = .locked then t else enterState .locked t)

/-- An edge that is not accepted (01 R8). -/
def rejectEdge (s : State) : State :=
  let n := s.tbu.candidates
  if n < 3 then
    { s with
      tbu := { s.tbu with
        stepCount := n
        candInterval := 0
        flags := { s.tbu.flags with ppsRejected := true } } }
  else phaseStep s

/-- An edge in LOCKED, HOLDOVER or FREE (01 R6, R8). DESIGN CHOICE (log 39): the tick of an accepted edge comes after the
entry to LOCKED, so the slots it opens take grade A (01 R11, R17, 05 R97). -/
def timedEdge (s : State) : State :=
  if s.earlyEdge then
    localTimeChanged s.tbu.localTime (acceptEdge (-((s.tbu.nSec : Int) - (s.tbu.c : Int))) (rollover true s))
  else if s.lateEdge then
    localTimeChanged s.tbu.localTime (acceptEdge (s.tbu.c : Int) { s with tbu := { s.tbu with c := 0 } })
  else rejectEdge s

/-- A transition of PPS; only the direction that PPSPOL selects is an edge (01 R3). -/
def takeEdge (rising : Bool) (s : State) : State :=
  let t := { s with pins := { s.pins with pps := rising } }
  if rising = s.straps.ppspol then t
  else match s.tbu.tstate with
    | .unset => unsetEdge t
    | .acquiring => acquiringEdge t
    | .locked | .holdover | .free => timedEdge t

/-- PPS_EDGE. -/
def execPpsEdge (rising : Bool) (s : State) : Host.Outcome State Fault Refusal := .next (takeEdge rising s)

/-! ### PPS_MISSED (01 R7) -/

/-- In LOCKED, c has passed the window of a rollover with no accepted edge, and its miss is not counted yet. -/
def State.missDue (s : State) : Bool :=
  s.tbu.tstate == .locked && s.tbu.window == .opened && decide (s.tbu.windowW < s.tbu.c)

/-- A miss is counted; at the miss limit HOLDOVER is entered (01 R7). -/
def countMiss (s : State) : State :=
  let n := s.tbu.missCount + 1
  let t := { s with
    tbu := { s.tbu with missCount := n, window := .missed, flags := { s.tbu.flags with ppsMissed := true } } }
  if s.tbu.policy.missLimit ≤ n then
    enterState .holdover { t with tbu := { t.tbu with missCount := 0, holdoverAge := 0 } }
  else t

/-- PPS_MISSED. -/
def execPpsMissed (s : State) : Host.Outcome State Fault Refusal := .next (if s.missDue then countMiss s else s)

/-! ### OUTPUT_GRID_TICK and DEADLINE_ARRIVAL -/

/-- OUTPUT_GRID_TICK. -/
def execOutputGridTick (s : State) : Host.Outcome State Fault Refusal := .next (deliverTick s)

/-- DEADLINE_ARRIVAL. -/
def execDeadlineArrival (s : State) : Host.Outcome State Fault Refusal := .next (sealDue s)

end Sys2Proof.Machine
end

