-- ==== Sys2Proof/Machine/Clock.lean ====
section
/-! DEFINITION. What the part does by itself when no command waits: the next internal event that is due (log 1, log 4). -/

namespace Sys2Proof.Machine

/-- The command that takes a request of kind `k` (10 R204). -/
def requestCommand (k : Byte) : Instr :=
  [.badKind, .identify, .setIdentity, .configure, .timePolicy, .timeLabel, .leapSchedule, .timeQuery, .streamDefine,
    .streamEnable, .streamDisable, .streamQuery, .alignStart, .alignStop, .bufferQuery, .softReset].getD k.toNat .badKind

/-- The command that takes the REQUEST or length note at the head of the inbound queue (07 R150). -/
def State.headCommand (s : State) : Option Instr :=
  match s.lki.inbound.head? with
  | none | some (.field ..) => none
  | some (.lengthNote _) => if s.headReady then some .lengthNoteReply else none
  | some (.request _ []) => if s.headReady then some .emptyPayloadRequest else none
  | some (.request _ (k :: _)) => if s.headReady then some (requestCommand k) else none

/-- The end of a message of a class. -/
def endCommand : OutClass → Instr
  | .reply => .replyEnd | .notice => .noticeEnd | .flow => .flowEnd | .set => .setEmissionEnd | .late => .lateEnd

/-- The start of a message of a class. -/
def startCommand : OutClass → Instr
  | .reply => .replyStart | .notice => .noticeStart | .flow => .flowStart | .set => .setStart | .late => .lateStart

/-- The message in transmission has ended (07 R155). -/
def State.dueEnd (s : State) : Option Instr :=
  match s.lki.tx with
  | some m => if m.done then some (endCommand m.cls) else none
  | none => none

/-- The arbiter may start a message (07 R155). -/
def State.dueStart (s : State) : Option Instr :=
  match s.nextClass with
  | some c => if s.canStart c then some (startCommand c) else none
  | none => none

/-- A condition's event. -/
def whenDue (b : Bool) (c : Instr) : Option Instr := if b then some c else none

/-- The internal event that is due, if any, in the order of log 4. -/
def State.nextDue (s : State) : Option Instr :=
  whenDue (s.lki.gate == .closed) .startupEnd
    <|> whenDue s.missDue .ppsMissed
    <|> whenDue s.tickDue.isSome .outputGridTick
    <|> whenDue s.deadlineDue .deadlineArrival
    <|> s.nextSilence.map (fun e => .silenceExpiry e.1 e.2)
    <|> whenDue s.gapDue .truncated
    <|> s.dueEnd
    <|> s.dueStart
    <|> s.headCommand

/-- The part with no command waiting: the event that is due; otherwise the FIELD message at the head is taken, or the work
on the frame in hand goes on or rests; otherwise one REFCLK cycle (log 1, log 9). -/
inductive Idle where
  | event (c : Instr)
  | take
  | frame
  | cycle
  deriving DecidableEq, Repr

/-- Which of them it is. -/
def State.idle (s : State) : Idle :=
  match s.nextDue with
  | some c => .event c
  | none => if s.headFrame.isNone then .cycle else if s.fck.inHand.isNone then .take else .frame

/-- One REFCLK cycle: a plain one, or the one on which c reaches N_sec, the event SECOND_ROLLOVER (log 3). -/
def passCycle (s : State) : State := if s.rolloverDue then rolloverCycle s else plainCycle s

/-- The work on the frame in hand goes on, or a REFCLK cycle passes before it does: a free value (log 9). -/
def workOrRest (s : State) : State :=
  let t := { s with fresh := s.fresh + 1 }
  if Config.frameRests s.fresh then passCycle t else advanceFrame t

end Sys2Proof.Machine
end

