-- ==== Sys2Proof/Machine/Dispatch.lean ====
section
/-! DEFINITION. One arm per command. -/

namespace Sys2Proof.Machine

def exec (i : Instr) (s : State) : Host.Outcome State Fault Refusal :=
  match i with
  | .pinReset a b c d e => Sys2Proof.Machine.execPinReset a b c d e s
  | .startupEnd => Sys2Proof.Machine.execStartupEnd s
  | .ppsEdge r => Sys2Proof.Machine.execPpsEdge r s
  | .secondRollover => Sys2Proof.Machine.execSecondRollover s
  | .ppsMissed => Sys2Proof.Machine.execPpsMissed s
  | .outputGridTick => Sys2Proof.Machine.execOutputGridTick s
  | .deadlineArrival => Sys2Proof.Machine.execDeadlineArrival s
  | .silenceExpiry n p => Sys2Proof.Machine.execSilenceExpiry n p s
  | .receiveMessage l => Sys2Proof.Machine.execReceiveMessage l s
  | .truncated => Sys2Proof.Machine.execTruncated s
  | .fieldFrame => Sys2Proof.Machine.execFieldFrame s
  | .lengthNoteReply => Sys2Proof.Machine.execLengthNoteReply s
  | .badKind => Sys2Proof.Machine.execBadKind s
  | .identify => Sys2Proof.Machine.execIdentify s
  | .setIdentity => Sys2Proof.Machine.execSetIdentity s
  | .configure => Sys2Proof.Machine.execConfigure s
  | .timePolicy => Sys2Proof.Machine.execTimePolicy s
  | .timeLabel => Sys2Proof.Machine.execTimeLabel s
  | .leapSchedule => Sys2Proof.Machine.execLeapSchedule s
  | .timeQuery => Sys2Proof.Machine.execTimeQuery s
  | .streamDefine => Sys2Proof.Machine.execStreamDefine s
  | .streamEnable => Sys2Proof.Machine.execStreamEnable s
  | .streamDisable => Sys2Proof.Machine.execStreamDisable s
  | .streamQuery => Sys2Proof.Machine.execStreamQuery s
  | .alignStart => Sys2Proof.Machine.execAlignStart s
  | .alignStop => Sys2Proof.Machine.execAlignStop s
  | .bufferQuery => Sys2Proof.Machine.execBufferQuery s
  | .softReset => Sys2Proof.Machine.execSoftReset s
  | .replyStart => Sys2Proof.Machine.execReplyStart s
  | .replyEnd => Sys2Proof.Machine.execReplyEnd s
  | .noticeStart => Sys2Proof.Machine.execNoticeStart s
  | .noticeEnd => Sys2Proof.Machine.execNoticeEnd s
  | .flowStart => Sys2Proof.Machine.execFlowStart s
  | .flowEnd => Sys2Proof.Machine.execFlowEnd s
  | .setStart => Sys2Proof.Machine.execSetStart s
  | .setEmissionEnd => Sys2Proof.Machine.execSetEmissionEnd s
  | .lateStart => Sys2Proof.Machine.execLateStart s
  | .lateEnd => Sys2Proof.Machine.execLateEnd s
  | .hrdyFall => Sys2Proof.Machine.execHrdyFall s
  | .hrdyRise => Sys2Proof.Machine.execHrdyRise s
  | .emptyPayloadRequest => Sys2Proof.Machine.execEmptyPayloadRequest s

end Sys2Proof.Machine
end

