-- ==== Sys2Proof/Machine/Step.lean ====
section
/-! DEFINITION. One step: the command at the front of the queue, or the part by itself. -/

namespace Sys2Proof.Machine

/-- Take the command at the front of the queue and run it on the queue's rest; with none waiting, the part goes on by
itself: the internal event that is due, the work on a field frame, or one REFCLK cycle (log 1, log 9). -/
def step (s : State) : Host.Outcome State Fault Refusal :=
  match s.pending with
  | c :: rest => exec c { s with pending := rest }
  | [] =>
    match s.idle with
    | .event c => exec c s
    | .take => .next (readFrame s)
    | .frame => .next (workOrRest s)
    | .cycle => .next (passCycle s)

/-- `s` with the command a word spells at the front of its queue. No word spells one. -/
def State.withFetchWord (s : State) (nbits w : Nat) : State :=
  match decodeTableWord nbits w with
  | some c => { s with pending := c :: s.pending }
  | none => s

end Sys2Proof.Machine
end

