-- ==== Sys2Proof/Safety.lean ====
section
/-! DEFINITION. What a sound condition of the part is, block by block, in the terms the claims use. Each is meant to be
kept by every step. -/

namespace Sys2Proof.Machine

/-! ### Queues and places -/

/-- No queue is above its capacity, the place kept for the deferred reply is free whenever a reply is deferred, and a frame
in hand is the FIELD message at the head of the inbound queue (07 R150, R154, R160, 06 R134, R137, 09 R187, 02 R23). -/
structure State.Bounded (s : State) : Prop where
  inbound : s.lki.inbound.length ≤ Config.inbound
  ordinary : (s.lki.replies.countP fun r => !r.kept) ≤ Config.replies
  keptPlace : (s.lki.replies.countP fun r => r.kept) + s.rqh.deferred.isSome.toNat ≤ 1
  drain : s.rqh.deferred.isSome = true ↔ s.alb.runState = .draining
  notices : s.ntq.records.length ≤ Config.notices
  late : s.sem.late.length ≤ Config.lateCells
  discard : s.lki.discard ≤ Config.discardTop
  frame : s.fck.inHand.isSome = true → s.headFrame.isSome = true

/-! ### The time base (01) -/

/-- The Time Base Unit's values lie in their ranges, c is below N_sec while time is set, and no tick is the
newest while time is not set or one waits for a change of local time (01 R1, R3, R6, R18, R20). -/
structure Tbu.Sound (t : Tbu) : Prop where
  length : Config.nMin ≤ t.nSec ∧ t.nSec ≤ Config.nMax
  count : t.timeSet = true → t.c < t.nSec
  countStop : t.c ≤ Config.countStop
  candidate : t.candInterval ≤ Config.countStop
  phase : t.usPhase < 50
  misses : t.missCount < 8
  steps : t.stepCount < 3
  window : 1 ≤ t.policy.w ∧ t.policy.w ≤ 5000
  limits : t.policy.limitCode ≤ 3 ∧ 1 ≤ t.policy.missLimit ∧ t.policy.missLimit ≤ 8
  pendingLabel : t.tstate = .acquiring → t.pendingLabel.isSome = true
  ticks : t.timeSet = false → t.newestTick = none
  waits : t.tickWaits = true → t.newestTick = none

/-- At most one of the two leap records is present: an accepted direction makes the last applied event absent, and an
application makes the pending event absent (01 R14, R15). -/
def Leaps.Single (r : Leaps) : Prop := r.pending = none ∨ r.last = none

/-! ### The Stream Table (03) -/

/-- A stream record's fields lie in their ranges; a stream is LEARNING exactly when it is enabled without a layout (03
R44, R45, R47, R49, R53, R66, 04 R79). -/
structure StreamRec.Sound (r : StreamRec) : Prop where
  errors : r.errCount ≤ 15
  goods : r.goodCount ≤ 3
  threshold : 1 ≤ r.errThreshold ∧ r.errThreshold ≤ 15
  silence : 1 ≤ r.silenceCount ∧ r.silenceCount ≤ 255
  holdLimit : r.holdLimit ≤ 15
  holdAge : ∀ v, r.hold = some v → v.age ≤ 15
  lhat : ∀ l, r.lhat = some l → l ≤ 4000000
  latencyMax : r.latencyMax ≤ 4000000
  learning : r.state = .learning → r.layout = none
  laidOut : r.state ≠ .disabled → r.state ≠ .learning → r.layout.isSome = true

/-- Every stream record is sound. -/
def State.RecordsSound (s : State) : Prop := ∀ n, (s.stream n).Sound

/-- The source map binds exactly the enabled streams, each by its own source ID, no source ID twice; an undefined stream
is DISABLED (03 R42, R43). -/
structure State.SourcesSound (s : State) : Prop where
  streams : s.streams.length = Config.streams
  bound : ∀ e ∈ s.sourceMap, e.2 < Config.streams ∧ (s.stream e.2).state ≠ .disabled ∧ (s.stream e.2).source = e.1
  covered : ∀ n, n < Config.streams → (s.stream n).state ≠ .disabled → ((s.stream n).source, n) ∈ s.sourceMap
  unique : (s.sourceMap.map (·.1)).Nodup
  undefined : ∀ n, n < Config.streams → (s.stream n).source = 0 → (s.stream n).state = .disabled

/-! ### The Alignment Buffer (05) -/

/-- The cell numbers in the free list and in the slots. -/
def Alb.numbers (a : Alb) : List Nat := a.free ++ a.slots.flatMap Slot.numbers

/-- Every cell of the pool is free or held by one slot, once (05 R98, R118). -/
structure Alb.PoolSound (a : Alb) : Prop where
  slots : a.slots.length = Config.slots
  cells : a.numbers.Perm (List.range Config.cells)

/-- The ring outside a run: no slot is OPEN unless RUNNING, a drain has something SEALED to emit, and a run has its
labels (05 R90 to R93). -/
structure Alb.RunSound (a : Alb) : Prop where
  slots : a.slots.length = Config.slots
  basePos : a.basePos < Config.slots
  opened : a.runState ≠ .running → ∀ x ∈ a.slots, x.isOpen = false
  sealing : a.runState = .draining → ∃ x ∈ a.slots, x.isSealed = true
  labels : a.runState ≠ .standby → a.start.isSome = true ∧ a.base.isSome = true ∧ a.frontier.isSome = true

/-! ### Emission and the link (06, 07) -/

/-- A message of a class is in transmission. -/
def Lki.sending (l : Lki) (c : OutClass) : Prop := ∃ m, l.tx = some m ∧ m.cls = c

/-- The label of the cursor and its slot. -/
def Cursor.at? : Cursor → Option (Nat × Label)
  | .idle => none
  | .offered pos l => some (pos, l)
  | .sending pos l => some (pos, l)

/-- The cursor is SENDING. -/
def Cursor.isSending : Cursor → Bool
  | .sending .. => true
  | .idle | .offered .. => false

/-- The Set Emitter, the link and the buffer agree about the SET at B (05 R114, R120, 06 R121, R122, R131, R139, 07 R160,
09 R189). -/
structure State.EmissionSound (s : State) : Prop where
  run : s.alb.RunSound
  sending : s.lki.sending .set ↔ s.sem.cursor.isSending = true
  record : s.sem.record.isSome = s.sem.cursor.isSending
  cursor : ∀ pos l, s.sem.cursor.at? = some (pos, l) →
    pos = s.alb.basePos ∧ ∃ c d, s.slotAt pos = .sealed c d ∧ d.label = l
  offered : (s.slotAt s.alb.basePos).isSealed = true → s.sem.cursor ≠ .idle
  standby : s.alb.runState = .standby → s.sem.cursor ≠ .idle → s.sem.cursor.isSending = true ∧ s.lki.gate = .resetting
  ring : s.alb.runState = .standby → ∀ pos, s.slotAt pos ≠ .vacant → ∃ l, s.sem.cursor.at? = some (pos, l)
  flushed : s.lki.gate = .resetting → s.lki.inbound = []
  passedOver : s.lki.gate = .resetting →
    s.lki.rxMode = .hunt ∨ s.lki.rxUnderReset = true ∧ ∀ c t n g, s.lki.rxMode ≠ .payload c t n g
  notice : s.lki.sending .notice → s.ntq.records ≠ []
  late : s.lki.sending .late → s.sem.late ≠ []

/-- A message in transmission: its bytes in their count, its credit byte taken exactly when it has begun, and a pause only
at a byte boundary with bytes to come; it rests at no other boundary but before its first byte and after its last (07 R142,
R152, R156). -/
structure TxMessage.Sound (m : TxMessage) : Prop where
  unbegun : m.out = 0 → m.left = 0
  rests : m.left = 0 → m.paused = false → m.out = 0 ∨ m.out = m.total
  bytes : m.out ≤ m.total
  cycles : m.left ≤ Config.byteCycles
  credit : m.credit.isSome = decide (6 ≤ m.out)
  creditRange : ∀ c, m.credit = some c → c ≤ 15
  paused : m.paused = true → m.left = 0 ∧ m.out < m.total

/-- The message in transmission, if any, is sound, its bits on the falling edges of LTXC, and the credit last sent is at
most 15 (07 R142, R152). -/
structure Lki.TransmitSound (l : Lki) : Prop where
  message : ∀ m, l.tx = some m → m.Sound
  clock : l.ltxcPhase < 4
  edges : ∀ m, l.tx = some m → 1 ≤ m.left → (m.left + l.ltxcPhase) % 4 = 0
  credit : l.creditLast ≤ 15

/-! ### The balance of counters (09 R197) -/

/-- The dispositions a good frame may meet after step 11. -/
def StreamCounters.dispositions (c : StreamCounters) : List Nat :=
  [c.decimated, c.standbyDiscard, c.preStart, c.late, c.ahead, c.duplicate, c.poolFull, c.placed]

/-- None of the counters of the balance has stopped at the top. -/
def StreamCounters.unstopped (c : StreamCounters) : Prop :=
  ∀ n ∈ c.good :: c.dispositions, n < Config.counterTop

/-- The frame in hand is a good frame of stream `n` that has met no disposition yet: 1, otherwise 0 (02 R29, R40). -/
def State.owed (s : State) (n : Nat) : Nat :=
  match s.fck.inHand with
  | some (.good h _) => if h.stream = n ∧ n < s.streams.length then 1 else 0
  | some (.taken _) | none => 0

/-- GOOD of stream `n` is the sum of its dispositions and the good frame in hand, while none of them has stopped (09
R197). -/
def State.Balanced (s : State) (n : Nat) : Prop :=
  (s.stream n).counters.unstopped →
    (s.stream n).counters.good = (s.stream n).counters.dispositions.sum + s.owed n

/-- The slots opened, the slots sealed, and the OPEN slots. -/
def Alb.openings (a : Alb) : Nat := a.openedTick + a.openedFrame

def Alb.seals (a : Alb) : Nat := a.sealedComplete + a.sealedDeadline + a.sealedHorizon + a.sealedPool + a.sealedDrain

def Alb.openCount (a : Alb) : Nat := a.slots.countP Slot.isOpen

/-- None of the buffer's opening and seal counters has stopped at the top. -/
def Alb.unstopped (a : Alb) : Prop :=
  ∀ n ∈ [a.openedTick, a.openedFrame, a.sealedComplete, a.sealedDeadline, a.sealedHorizon, a.sealedPool,
    a.sealedDrain], n < Config.counterTop

/-! ### The words of the claims -/

/-- The request of kind `k` with fields `p` stands at the head of the inbound queue, and an ordinary place of the reply
queue is free (07 R151). -/
structure State.Asked (s : State) (tag k : Byte) (p : List Byte) : Prop where
  head : s.lki.inbound.head? = some (.request tag (k :: p))
  place : s.placeFree = true

/-- The state with the head of the inbound queue freed and a reply of these three bytes and this body in an ordinary
place (07 R150, R154, 10 R206). -/
def State.replied (s : State) (tag kind : Byte) (status : Status) (detail : Nat) (body : List Byte) : State :=
  { s with
    lki := { s.lki with
      inbound := s.lki.inbound.tail
      replies := s.lki.replies ++
        [⟨false, tag, kind :: BitVec.ofNat 8 status.code :: BitVec.ofNat 8 detail :: body⟩] } }

/-- The frame at the head is read with `k`: it is in hand before step 1 with that reading, or nothing is in hand and `k` is
the reading of the moment (02 R23). -/
def State.ReadWith (s : State) (k : Reading) : Prop :=
  s.fck.inHand = some (.taken k) ∨ s.fck.inHand = none ∧ k = ⟨s.tbu.uptime, s.tbu.localTime⟩

/-- The instant of a DATA frame snapped to the grid of a layout (04 R71 to R75). -/
def State.snapped (s : State) (frame : List Byte) (l : Layout) : Snapped :=
  snap s.leaps (frameSecond frame) (fractionNs (field frame 8 3) l.timeBase) (rateOf l.rateCode)

/-- The second a DATA frame names occurs: an inserted one where a record is an INSERT at it, another one unless a record is
a DELETE at it (02 R34). -/
abbrev State.names (s : State) (frame : List Byte) : Prop :=
  if (frameSecond frame).inserted = true then s.leaps.insertAt (frameSecond frame).label = true
  else s.leaps.deleteAt (frameSecond frame).label = false

/-- A DATA frame read by a layout passes steps 6 and 7 (02 R33, R34). -/
structure State.Reads (s : State) (frame : List Byte) (l : Layout) : Prop where
  length : frame.length = 18 + 6 * l.phasors + 4 * l.analogs + 2 * l.digitals
  fraction : field frame 8 3 < l.timeBase
  second : s.names frame

/-- Step 8: Δt is within T_snap (02 R35, 04 R75). -/
abbrev State.OnGrid (s : State) (x : Snapped) : Prop := x.offset.natAbs ≤ s.rqh.config.tSnap * 1000

/-- Step 9: at most 128 output periods earlier than the newest accepted instant (04 R77). -/
def State.InOrder (s : State) (r : StreamRec) (x : Snapped) : Prop :=
  ∀ m, r.newest = some m → s.leaps.diff x.instant m.instant * (s.fout : Int) ≤ 128000000000

/-- Step 10: not later than the reading's local time by more than T_future (04 R78). -/
def State.InTime (s : State) (k : Reading) (x : Snapped) : Prop :=
  ∀ t, k.localTime = some t → s.leaps.diff t x.instant ≤ s.rqh.config.tFuture * 1000000

/-- A DATA frame of an enabled stream with a layout passes steps 6 to 10, its instant snapped to `x` (02 R33 to R35). -/
structure State.Passes (s : State) (k : Reading) (frame : List Byte) (r : StreamRec) (l : Layout) (x : Snapped) : Prop where
  reads : s.Reads frame l
  snapped : x = s.snapped frame l
  grid : s.OnGrid x
  order : s.InOrder r x
  time : s.InTime k x

/-- A frame of a known source is a stream error (02 R36): a DATA frame whose first failure is step 6, 7, 8, 9 or 10, or a
LAYOUT frame with a field out of its range; with the stream's counters and sequence flag after it (02 R27, R33 to R35). -/
inductive State.StreamError (s : State) (k : Reading) (frame : List Byte) (r : StreamRec) : StreamCounters → Bool → Prop
  | length (l : StreamLayout) : field frame 2 1 = 1 → r.state ≠ .learning → r.layout = some l →
      frame.length ≠ 18 + 6 * l.shape.phasors + 4 * l.shape.analogs + 2 * l.shape.digitals →
      s.StreamError k frame r { r.counters with malformed := min (r.counters.malformed + 1) 4294967295 } r.seqFlag
  | fraction (l : StreamLayout) : field frame 2 1 = 1 → r.state ≠ .learning → r.layout = some l →
      frame.length = 18 + 6 * l.shape.phasors + 4 * l.shape.analogs + 2 * l.shape.digitals →
      l.shape.timeBase ≤ field frame 8 3 →
      s.StreamError k frame r { r.counters with timeFormat := min (r.counters.timeFormat + 1) 4294967295 } r.seqFlag
  | second (l : StreamLayout) : field frame 2 1 = 1 → r.state ≠ .learning → r.layout = some l →
      frame.length = 18 + 6 * l.shape.phasors + 4 * l.shape.analogs + 2 * l.shape.digitals →
      field frame 8 3 < l.shape.timeBase → ¬ s.names frame →
      s.StreamError k frame r { r.counters with badLeap := min (r.counters.badLeap + 1) 4294967295 } r.seqFlag
  | grid (l : StreamLayout) : field frame 2 1 = 1 → r.state ≠ .learning → r.layout = some l → s.Reads frame l.shape →
      ¬ s.OnGrid (s.snapped frame l.shape) →
      s.StreamError k frame r { r.counters with offGrid := min (r.counters.offGrid + 1) 4294967295 } r.seqFlag
  | order (l : StreamLayout) : field frame 2 1 = 1 → r.state ≠ .learning → r.layout = some l → s.Reads frame l.shape →
      s.OnGrid (s.snapped frame l.shape) → ¬ s.InOrder r (s.snapped frame l.shape) →
      s.StreamError k frame r { r.counters with regression := min (r.counters.regression + 1) 4294967295 } true
  | time (l : StreamLayout) : field frame 2 1 = 1 → r.state ≠ .learning → r.layout = some l → s.Reads frame l.shape →
      s.OnGrid (s.snapped frame l.shape) → s.InOrder r (s.snapped frame l.shape) →
      ¬ s.InTime k (s.snapped frame l.shape) →
      s.StreamError k frame r { r.counters with future := min (r.counters.future + 1) 4294967295 } r.seqFlag
  | layout : field frame 2 1 = 2 →
      12 < field frame 3 1 ∨ field frame 4 3 = 0 ∨ 12 < field frame 7 1 ∨ 4 < field frame 8 1 ∨ 2 < field frame 9 1 ∨
        field frame 10 1 ≠ 50 ∧ field frame 10 1 ≠ 60 →
      s.StreamError k frame r { r.counters with malformed := min (r.counters.malformed + 1) 4294967295 } r.seqFlag

/-- The Notice Queue after a posting at an uptime (09 R186 to R188). -/
def Ntq.took (q : Ntq) (now : Uptime) (e : NoticeEvent) : Ntq :=
  if q.records.length < 32 then ⟨q.records ++ [⟨e, now, 0⟩], q.lost⟩ else ⟨q.records, min (q.lost + 1) 4294967295⟩

/-- A transition of PPS in the direction that PPSPOL selects (01 R3). -/
def State.activeEdge (s : State) (rising : Bool) : Prop := rising = !s.straps.ppspol

/-- Nothing but the time base, the pins, the buffer, the Set Emitter and the notices differs: what an event of the Time
Base Unit may change. -/
structure State.TimeEvent (s t : State) : Prop where
  pending : t.pending = s.pending
  straps : t.straps = s.straps
  fck : t.fck = s.fck
  streams : t.streams = s.streams
  sourceMap : t.sourceMap = s.sourceMap
  lki : t.lki = s.lki
  rqh : t.rqh = s.rqh

/-- A message just taken by the transmitter: on a falling edge of LTXC its first byte has begun, otherwise it waits for the
next one (07 R142, R155; log 35). -/
def begun (phase : Nat) (cls : OutClass) (tag : Byte) (payload : List Byte) : TxMessage :=
  if phase = 0 then ⟨cls, tag, payload, none, 1, 40, false⟩ else ⟨cls, tag, payload, none, 0, 0, false⟩

/-- Fields stand in a body: each triple is an offset, a width in bytes and the number there, most significant byte first
(10 R198). -/
def Laid (body : List Byte) (fields : List (Nat × Nat × Nat)) : Prop := ∀ e ∈ fields, field body e.1 e.2.1 = e.2.2

/-- An optional label stands in a body at an offset, each byte 0 when it is absent (10 R199). -/
def LabelLaid (body : List Byte) (off : Nat) : Option Label → Prop
  | none => field body off 7 = 0
  | some l =>
    Laid body [(off, 1, 1), (off + 1, 4, l.second.label.toNat), (off + 5, 1, l.second.inserted.toNat),
      (off + 6, 1, l.index % 256)]

/-- The body of an ALIGN_STOP reply with status OK: the run state, which is STANDBY, and the three labels (08 R178, 10
R206). -/
structure StopReport (body : List Byte) (start base frontier : Option Label) : Prop where
  length : body.length = 22
  runState : field body 0 1 = 0
  start : LabelLaid body 1 start
  base : LabelLaid body 8 base
  frontier : LabelLaid body 15 frontier

/-- An entry of a SET or LATE with a cell, at its byte places: status 0 PRESENT or 1 HELD, the hold age, then the channels
in the order of the DATA frame (10 R207, R208). -/
structure EntryLaid (w : List Byte) (stream status : Nat) (expected : Bool) (age : Nat) (x : Cell) : Prop where
  length : w.length = 26 + 6 * x.data.phasors.length + 4 * x.data.analogs.length + 2 * x.data.digitals.length
  fields : Laid w [(0, 1, stream % 256), (1, 1, status), (2, 1, expected.toNat), (3, 2, x.source % 65536),
    (5, 1, if x.path = .a then 0 else 1),
    (6, 1, x.rotated.toNat + 2 * x.dataInvalid.toNat + 4 * x.trigger.toNat + 8 * x.srcUnlocked.toNat
      + 16 * x.faultedSource.toNat),
    (7, 1, x.uncertainty % 256), (8, 4, (BitVec.ofInt 32 x.offset).toNat), (12, 6, x.arrival.toNat),
    (18, 1, x.data.phasors.length % 256), (19, 1, x.data.analogs.length % 256), (20, 1, x.data.digitals.length % 256),
    (21, 1, age % 256), (22 + 6 * x.data.phasors.length, 2, x.data.freqDev.toNat),
    (24 + 6 * x.data.phasors.length, 2, x.data.rocof.toNat)]
  phasors : ∀ i p, x.data.phasors[i]? = some p →
    Laid w [(22 + 6 * i, 4, p.magnitude.toNat), (26 + 6 * i, 2, p.angle.toNat)]
  analogs : ∀ i v, x.data.analogs[i]? = some v → field w (26 + 6 * x.data.phasors.length + 4 * i) 4 = v.toNat
  digitals : ∀ i v, x.data.digitals[i]? = some v →
    field w (26 + 6 * x.data.phasors.length + 4 * x.data.analogs.length + 2 * i) 2 = v.toNat

end Sys2Proof.Machine
end

