-- ==== Sys2Proof/Certificates/Slice0/Obligations.lean ====
section
/-! DEFINITION. The statements for the provers, from the spec's numbered rules. -/

open Sys2Proof Sys2Proof.Machine

/-! ### Steps -/

/-- A step takes the command at the front of the queue and runs it on the queue's rest. The queue is the model's (log
2). -/
def Obligations.StepRunsTheFrontCommand : Prop :=
  ∀ (c : Instr) (rest : List Instr) (s : State),
    s.pending = c :: rest → step s = exec c { s with pending := rest }

/-- With no command waiting the part goes on by itself (the model's choice, log 1, log 4): it runs the event that is due;
with none due it takes the FIELD message at the head of the inbound queue, with its reading, or goes on with the frame in
hand, or a REFCLK cycle passes before it does (02 R23, R40; that free choice is log 9); otherwise one REFCLK cycle passes.
On the cycle on which c reaches N_sec the second rolls over (log 3); any other cycle counts as 01 R1 to R3 and R8 say, and
ends the wait of a tick for a change of local time (01 R18). LTXC counts every such cycle, falling once in four. The message
in transmission moves with it: a byte takes 40 cycles, and at a boundary, on a falling edge, the next byte begins when HRDY is
high, its credit taken as the sixth begins, and with HRDY low the message pauses (07 R142, R152, R156; log 29, log 35). -/
def Obligations.IdleStep : Prop :=
  ∀ s : State, s.pending = [] →
    (∀ c, s.nextDue = some c → step s = exec c s) ∧
    (∀ y, s.nextDue = none → s.headFrame = some y → s.fck.inHand = none →
      step s = .next { s with fck := { s.fck with inHand := some (.taken ⟨s.tbu.uptime, s.tbu.localTime⟩) } }) ∧
    (∀ y w u, s.nextDue = none → s.headFrame = some y → s.fck.inHand = some w → u = { s with fresh := s.fresh + 1 } →
      step s = .next (advanceFrame u) ∨ step s = .next (passCycle u)) ∧
    (s.nextDue = none → s.headFrame = none → step s = .next (passCycle s)) ∧
    (s.tbu.timeSet = true → s.tbu.nSec ≤ s.tbu.c + 1 → exec .secondRollover s = .next (passCycle s)) ∧
    (∀ (t : State) (l : Lki), t = passCycle s → l = { s.lki with ltxcPhase := (s.lki.ltxcPhase + 1) % 4 } →
      (s.tbu.timeSet = true → s.tbu.c + 1 < s.tbu.nSec) →
      t.tbu = { s.tbu with
        c := if s.tbu.timeSet = true then s.tbu.c + 1 else min (s.tbu.c + 1) 50010001
        usPhase := if s.tbu.usPhase < 49 then s.tbu.usPhase + 1 else 0
        uptime := if s.tbu.usPhase < 49 then s.tbu.uptime else s.tbu.uptime + 1
        candInterval := min (s.tbu.candInterval + 1) 50010001
        tickWaits := false } ∧
      t = { s with tbu := t.tbu, lki := { l with tx := t.lki.tx, creditLast := t.lki.creditLast } } ∧
      (s.lki.tx = none → t.lki = l) ∧
      (∀ m, s.lki.tx = some m →
        (2 ≤ m.left → t.lki = { l with tx := some { m with left := m.left - 1 } }) ∧
        (m.left ≤ 1 → m.payload.length + 9 ≤ m.out ∨ l.ltxcPhase ≠ 0 → t.lki = { l with tx := some { m with left := 0 } }) ∧
        (m.left ≤ 1 → m.out < m.payload.length + 9 → l.ltxcPhase = 0 → s.pins.hrdy = false →
          t.lki = { l with tx := some { m with left := 0, paused := true } }) ∧
        (m.left ≤ 1 → m.out < m.payload.length + 9 → l.ltxcPhase = 0 → s.pins.hrdy = true → m.out ≠ 5 →
          t.lki = { l with tx := some { m with out := m.out + 1, left := 40, paused := false } }) ∧
        (m.left ≤ 1 → m.out < m.payload.length + 9 → l.ltxcPhase = 0 → s.pins.hrdy = true → m.out = 5 →
          t.lki = { l with
            creditLast := min (32 - s.lki.inbound.length) 15
            tx := some { m with
              out := 6
              left := 40
              paused := false
              credit := some (min (32 - s.lki.inbound.length) 15) } })))

/-! ### Rules over every command -/

/-- Outside a pin reset the straps stay (01 R22), an identity once written stays (08 R166) and a time policy once written
stays (01 R20), through SOFT_RESET too (08 R183). No command touches the queue of commands. -/
def Obligations.SettingsKept : Prop :=
  ∀ (c : Instr) (s t : State), exec c s = .next t →
    t.pending = s.pending ∧
    ((∀ a b x y z, c ≠ .pinReset a b x y z) →
      t.straps = s.straps ∧
      (s.rqh.idWritten = true → t.rqh.identity = s.rqh.identity ∧ t.rqh.idWritten = true) ∧
      (c ≠ .setIdentity → t.rqh.identity = s.rqh.identity ∧ t.rqh.idWritten = s.rqh.idWritten) ∧
      (s.tbu.policy.written = true → t.tbu.policy = s.tbu.policy) ∧
      (c ≠ .timePolicy → t.tbu.policy = s.tbu.policy))

/-- The configuration changes only while the Alignment Buffer is in STANDBY, or at a reset, which leaves it there (08
R167, R168). -/
def Obligations.ConfigurationFixedInRun : Prop :=
  ∀ (c : Instr) (s t : State), exec c s = .next t → t.rqh.config ≠ s.rqh.config →
    t.alb.runState = .standby ∧
      (c = .configure ∧ s.alb.runState = .standby ∨ c = .softReset ∨ ∃ a b x y z, c = .pinReset a b x y z)

/-- A posting joins the tail of the Notice Queue (09 R187): whatever a command other than a reset, its end, or a NOTICE's
start or end does, the records held stay in front, unchanged. -/
def Obligations.NoticesJoinTheTail : Prop :=
  ∀ (c : Instr) (s t : State), exec c s = .next t →
    (∀ a b x y z, c ≠ .pinReset a b x y z) →
    c ≠ .softReset → c ≠ .startupEnd → c ≠ .replyEnd → c ≠ .noticeStart → c ≠ .noticeEnd →
      ∃ more : List Notice, t.ntq.records = s.ntq.records ++ more

/-! ### What every step keeps -/

/-- No queue passes its capacity, the place kept for the deferred reply is free when it comes, and a frame in hand is the
FIELD message at the head (07 R150, R154, 06 R134, R137, 09 R187, 02 R23). -/
def Obligations.QueuesStayBounded : Prop :=
  ∀ s t : State, s.Bounded → step s = .next t → t.Bounded

/-- The time base stays in its ranges: N_sec within 200 ppm, c below N_sec while time is set (01 R1, R3, R6 to R8, R18,
R20); and the pending and the last applied leap event are never both present (01 R14, R15). -/
def Obligations.TimeBaseStaysSound : Prop :=
  ∀ s t : State, step s = .next t →
    (s.tbu.Sound → t.tbu.Sound) ∧ (s.leaps.Single → t.leaps.Single)

/-- Stream records stay sound (03 R44 to R49, R53, R55, R66, 04 R79, R80), and the source map stays the map of the enabled
streams, with no source ID twice (03 R42, R43). -/
def Obligations.StreamTableStaysSound : Prop :=
  ∀ s t : State, step s = .next t →
    (s.RecordsSound → t.RecordsSound) ∧ (s.SourcesSound → t.SourcesSound)

/-- Every cell stays free or held by one slot: the free and the held cells always number 8,192 (05 R98, R118). -/
def Obligations.PoolStaysWhole : Prop :=
  ∀ s t : State, s.alb.PoolSound → step s = .next t → t.alb.PoolSound

/-- The buffer, the Set Emitter, the Notice Queue and the link stay in agreement (05 R91 to R93, R114, R120, 06 R121,
R131, R139, 07 R159, R160, 09 R189). -/
def Obligations.EmissionStaysSound : Prop :=
  ∀ s t : State, s.EmissionSound → step s = .next t → t.EmissionSound

/-- The message in transmission stays sound: its credit byte is taken as it goes out, its bits change on the falling edges of
LTXC, and it rests only in a pause, before its first byte and after its last (07 R142, R152, R156). -/
def Obligations.TransmitterStaysSound : Prop :=
  ∀ s t : State, s.lki.TransmitSound → step s = .next t → t.lki.TransmitSound

/-- Every stream's GOOD stays the sum of its dispositions (09 R197), and of the good frame in hand that has none yet. -/
def Obligations.StreamBalanceKept : Prop :=
  ∀ s t : State, s.Bounded → s.alb.RunSound → (∀ n, s.Balanced n) → step s = .next t → ∀ n, t.Balanced n

/-- Openings less seals moves with the number of OPEN slots, for every command that clears no counter (09 R197). -/
def Obligations.OpeningBalanceKept : Prop :=
  ∀ (c : Instr) (s t : State), s.EmissionSound → exec c s = .next t → t.alb.unstopped →
    (∀ a b x y z, c ≠ .pinReset a b x y z) → c ≠ .softReset → c ≠ .bufferQuery →
      t.alb.openings + s.alb.seals + s.alb.openCount = s.alb.openings + t.alb.seals + t.alb.openCount

/-- Right after pin reset all of it holds. -/
def Obligations.ResetIsSound : Prop :=
  State.reset.Bounded ∧ State.reset.tbu.Sound ∧ State.reset.leaps.Single ∧ State.reset.RecordsSound ∧
    State.reset.SourcesSound ∧ State.reset.alb.PoolSound ∧ State.reset.EmissionSound ∧ State.reset.lki.TransmitSound ∧
    ∀ n, State.reset.Balanced n

/-! ### Resets -/

/-- PIN_RESET leaves every block at its values: the time base as 01 R22, the Frame Checker as 02 R41, the stream records as
03 R70, the buffer as 05 R119, the Set Emitter as 06 R140, the link as 07 R158, the configuration as 08 R167 with the output
rate of the OUTR straps, the Notice Queue as 09 R194. That one command stands for both edges of nRST, with the strap levels
as operands and HRDY and PPS kept, is the model's choice (log 28, log 5); so are the values the spec implies without giving
them: the microsecond's phase, the PPS window, the bit receiver, the last-byte uptime (log 6), that no tick waits
(log 6), and the phase of LTXC (log 35). -/
def Obligations.PinResetValues : Prop :=
  ∀ (nomf ppspol o2 o1 o0 : Bool) (s : State), exec (.pinReset nomf ppspol o2 o1 o0) s = .next {
    pending := s.pending
    straps := ⟨nomf, ppspol, 4 * o2.toNat + 2 * o1.toNat + o0.toNat⟩
    pins := s.pins
    tbu := {
      c := 0, nSec := 50000000, tstate := .unset, second := ⟨0, false⟩, pendingLabel := none, prevEdge := false
      missCount := 0, stepCount := 0, candInterval := 0, holdoverAge := 0, lastError := 0, leaps := ⟨none, none⟩
      newestTick := none, tickWaits := false, uptime := 0, usPhase := 0, window := .opened, windowW := 100
      flags := ⟨false, false, false, false, false⟩, policy := ⟨2, 100, 2, false⟩ }
    fck := {
      malformed := 0, checkError := 0, badPath := 0, unknownSource := 0, armed := true, inHand := none }
    streams := List.replicate 256 {
      source := 0, state := .disabled, layout := none, rotate := false, fill := .none, holdLimit := 0, errThreshold := 1
      silenceCount := 1, errCount := 0, goodCount := 0, seqFlag := false, newest := none, pathA := ⟨false, none, 0, 0⟩
      pathB := ⟨false, none, 0, 0⟩, lhat := none, seedMark := true, latencyMax := 0, hold := none, mismatchArmed := true
      counters := .zero }
    sourceMap := []
    alb := {
      runState := .standby, start := none, base := none, basePos := 0, frontier := none
      slots := List.replicate 128 .vacant, free := List.range 8192, lowWater := 8192, pressureArmed := true
      openedTick := 0, openedFrame := 0, sealedComplete := 0, sealedDeadline := 0, sealedHorizon := 0, sealedPool := 0
      sealedDrain := 0, drainSkipped := 0 }
    sem := { cursor := .idle, record := none, late := [], setsSent := 0, lateSent := 0 }
    ntq := { records := [], lost := 0 }
    lki := {
      gate := .closed, rxMode := .hunt, rxUnderReset := false, rxLine := .wait false, lastByte := 0, inbound := []
      replies := [], flowPending := false, creditLast := 0, tx := none, ltxcPhase := 0, overrunArmed := true
      discard := 0, headerError := 0, unknownClass := 0, tooLong := 0, truncated := 0, checkError := 0, overrun := 0, accepted := 0 }
    rqh := {
      config := ⟨[3, 7, 8, 9, 10, 11, 12, 0].getD (4 * o2.toNat + 2 * o1.toNat + o0.toNat) 3, .adaptive, 200, 20, 500, 10,
        100, 1000, .discard⟩
      identity := 0, idWritten := false, deferred := none }
    fresh := s.fresh }

/-- STARTUP_END opens a CLOSED gate and posts RESET_DONE with cause PIN in front, so a NOTICE is the message that goes first,
whatever else waits (07 R158, 09 R192; log 41, DESIGN CHOICE, unsafe); otherwise nothing ends (log 25). -/
def Obligations.StartupEndOpensTheGate : Prop :=
  ∀ s : State,
    (s.lki.gate = .closed → s.lki.tx = none → s.ntq.records.length < 32 →
      exec .startupEnd s = .next { s with
        lki := { s.lki with gate := .opened }
        ntq := ⟨⟨.resetDone .pin 0, s.tbu.uptime, 0⟩ :: s.ntq.records, s.ntq.lost⟩ }) ∧
    (∀ t, s.lki.gate = .closed → s.lki.tx = none → exec .startupEnd s = .next t → t.nextClass = some .notice) ∧
    (s.lki.gate ≠ .closed → exec .startupEnd s = .next s)

/-- The execution event of a SOFT_RESET (08 R182, R183, 07 R159, R160, 06 R138, R139, 09 R193, 05 R120, 03 R70, 02 R41): what
has not begun is discarded, what is in transmission goes on with its record, its late cell or its slot; everything else of
the streams, the buffer, the counters and the inbound queue is at its reset values. A message in hand whose header was good
may be counted at once or at its end (log 8). A changed Fout makes the newest ticked label absent until local time has changed
and a tick is delivered (01 R18; log 18). -/
def Obligations.SoftResetEvent : Prop :=
  ∀ (s : State) (tag : Byte), s.lki.inbound.head? = some (.request tag [0x0F]) →
    ∃ t : State, exec .softReset s = .next t ∧
      t.lki.replies = (match s.rqh.deferred with
        | none => []
        | some x => [⟨true, x, [0x0D, 0x09, 0x00]⟩]) ++ [⟨false, tag, [0x0F, 0x00, 0x00]⟩] ∧
      t.rqh.deferred = none ∧ t.lki.flowPending = false ∧ t.lki.inbound = [] ∧ t.lki.gate = .resetting ∧
      t.lki.tx = s.lki.tx ∧ t.lki.creditLast = s.lki.creditLast ∧ t.lki.overrunArmed = true ∧
      [t.lki.headerError, t.lki.unknownClass, t.lki.tooLong, t.lki.truncated, t.lki.checkError, t.lki.overrun,
        t.lki.accepted] = List.replicate 7 0 ∧
      (t.lki.discard = s.lki.inbound.length - 1 ∨
        s.lki.rxMode.pastHeader = true ∧ t.lki.discard = s.lki.inbound.length) ∧
      t.lki.rxMode = (match s.lki.rxMode with
        | .hunt => .hunt
        | .header got => .header got
        | .payload _ _ left _ => .skip left none
        | .skip left _ => .skip left none) ∧
      t.lki.rxUnderReset = decide (s.lki.rxMode ≠ .hunt) ∧ t.lki.rxLine = s.lki.rxLine ∧ t.lki.lastByte = s.lki.lastByte ∧
      t.rqh.config = ⟨[3, 7, 8, 9, 10, 11, 12, 0].getD s.straps.outr 3, .adaptive, 200, 20, 500, 10, 100, 1000,
        .discard⟩ ∧
      t.tbu = (if t.rqh.config.rateCode = s.rqh.config.rateCode then s.tbu
        else { s.tbu with newestTick := none, tickWaits := true }) ∧
      t.streams = List.replicate 256 .reset ∧ t.sourceMap = [] ∧ t.fck = ⟨0, 0, 0, 0, true, none⟩ ∧
      ((∃ m, s.lki.tx = some m ∧ m.cls = .notice) → t.ntq = ⟨s.ntq.records.take 1, 0⟩) ∧
      ((∀ m, s.lki.tx = some m → m.cls ≠ .notice) → t.ntq = ⟨[], 0⟩) ∧
      ((∃ m, s.lki.tx = some m ∧ m.cls = .late) → t.sem.late = s.sem.late.take 1) ∧
      ((∀ m, s.lki.tx = some m → m.cls ≠ .late) → t.sem.late = []) ∧
      t.sem.setsSent = 0 ∧ t.sem.lateSent = 0 ∧ t.sem.record = s.sem.record ∧
      (s.sem.cursor.isSending = false → t.sem.cursor = .idle ∧ t.alb = Alb.reset) ∧
      (∀ pos l, s.sem.cursor = .sending pos l → pos < 128 →
        t.sem.cursor = s.sem.cursor ∧
        t.alb = { Alb.reset with
          start := s.alb.start
          base := s.alb.base
          basePos := s.alb.basePos
          slots := t.alb.slots
          free := t.alb.free } ∧
        t.slotAt pos = s.slotAt pos ∧ (∀ q, q ≠ pos → t.slotAt q = .vacant) ∧
        t.alb.free = (List.range 8192).filter (fun x => decide (x ∉ (s.slotAt pos).numbers))) ∧
      t.rqh.identity = s.rqh.identity ∧ t.rqh.idWritten = s.rqh.idWritten ∧ t.straps = s.straps ∧ t.pins = s.pins

/-! ### The time base -/

/-- In UNSET an active edge makes the previous-edge record present and restarts c, and nothing else; a transition in the
other direction is ignored in every time state (01 R3). -/
def Obligations.PpsInUnset : Prop :=
  ∀ (s : State) (rising : Bool),
    (s.activeEdge rising → s.tbu.tstate = .unset →
      exec (.ppsEdge rising) s = .next { s with
        pins := { s.pins with pps := rising }
        tbu := { s.tbu with prevEdge := true, c := 0 } }) ∧
    (¬ s.activeEdge rising → exec (.ppsEdge rising) s = .next { s with pins := { s.pins with pps := rising } })

/-- In ACQUIRING an active edge consumes the pending label, which advances, applying the leap event it passes (01 R4, R14,
R12): with the record present and the interval in range it locks, the first tick being that of index 0 of the locking second
(01 R17, R18); otherwise the interval starts anew, PPS_REJECTED set when one was measured. That the tick is part of the
edge's event is log 24 (DEDUCED); that the window's w is latched at the lock is log 6 (DESIGN CHOICE). -/
def Obligations.PpsInAcquiring : Prop :=
  ∀ (s : State) (rising : Bool) (x : Second) (r : Leaps) (f : TimeFlags) (q : Ntq),
    s.activeEdge rising → s.tbu.tstate = .acquiring → s.tbu.pendingLabel = some x →
    (s.leaps.applies x = none ∧ r = s.leaps ∧ f = s.tbu.flags ∧ q = s.ntq ∨
      ∃ e, s.leaps.applies x = some e ∧ r = ⟨none, some e⟩ ∧ f = { s.tbu.flags with leapApplied := true } ∧
        q = s.ntq.took s.tbu.uptime (.leap e.dir e.second)) →
    (s.tbu.prevEdge = true → 49990000 ≤ s.tbu.c → s.tbu.c ≤ 50010000 → s.tbu.newestTick = none →
      ∃ t : State, exec (.ppsEdge rising) s = .next t ∧ s.TimeEvent t ∧
        t.tbu = { s.tbu with
          tstate := .locked
          c := 0
          second := x
          nSec := s.tbu.c
          lastError := 0
          missCount := 0
          stepCount := 0
          holdoverAge := 0
          pendingLabel := none
          window := .matched
          windowW := s.tbu.policy.w
          leaps := r
          flags := f
          newestTick := some ⟨x, 0⟩
          tickWaits := false } ∧
        t.ntq = q.took s.tbu.uptime (.timeState .acquiring .locked x.label)) ∧
    ((s.tbu.prevEdge = false ∨ s.tbu.c < 49990000 ∨ 50010000 < s.tbu.c) →
      exec (.ppsEdge rising) s = .next { s with
        pins := { s.pins with pps := rising }
        ntq := q
        tbu := { s.tbu with
          pendingLabel := some (s.leaps.succ x)
          prevEdge := true
          c := 0
          leaps := r
          flags := { f with ppsRejected := f.ppsRejected || s.tbu.prevEdge } } })

/-- An edge inside the window of a rollover is accepted: early, it brings the rollover forward, with the leap event that the
rollover applies (01 R14); late, it restarts c with the label kept; N_sec follows the phase error, clamped; the counts become
0 and the part is LOCKED, from HOLDOVER and FREE with the age 0, never by way of FREE; LEAP is posted before TIME_STATE (01
R6, R10, R12). An early edge is judged by the w in force and a late one by the w latched at its rollover: log 6 (DESIGN
CHOICE, unsafe). A tick that waits for a change of local time waits on only when the edge leaves local time as it was (01
R18; log 18). -/
def Obligations.PpsEdgeAccepted : Prop :=
  ∀ (s : State) (rising early : Bool) (d : Int) (x : Second) (r : Leaps) (f : TimeFlags) (q : Ntq),
    s.activeEdge rising → s.tbu.timeSet = true → s.tbu.c < s.tbu.nSec →
    (early = true ∧ s.tbu.nSec - s.tbu.c ≤ s.tbu.policy.w ∧ d = (s.tbu.c : Int) - (s.tbu.nSec : Int) ∧
        x = s.leaps.succ s.tbu.second ∨
      early = false ∧ s.tbu.policy.w < s.tbu.nSec - s.tbu.c ∧ s.tbu.c ≤ s.tbu.windowW ∧ s.tbu.window ≠ .matched ∧
        d = (s.tbu.c : Int) ∧ x = s.tbu.second) →
    ((early = false ∨ s.leaps.applies s.tbu.second = none) ∧ r = s.leaps ∧ f = s.tbu.flags ∧ q = s.ntq ∨
      early = true ∧ ∃ e, s.leaps.applies s.tbu.second = some e ∧ r = ⟨none, some e⟩ ∧
        f = { s.tbu.flags with leapApplied := true } ∧ q = s.ntq.took s.tbu.uptime (.leap e.dir e.second)) →
    ∃ t : State, exec (.ppsEdge rising) s = .next t ∧ s.TimeEvent t ∧
      t.tbu = { s.tbu with
        c := 0
        second := x
        nSec := (max 49990000 (min 50010000 ((s.tbu.nSec : Int) + d))).toNat
        lastError := d
        flags := { f with
          lengthClamped :=
            f.lengthClamped || decide ((s.tbu.nSec : Int) + d < 49990000 ∨ 50010000 < (s.tbu.nSec : Int) + d) }
        missCount := 0
        stepCount := 0
        window := .matched
        windowW := if early = true then s.tbu.policy.w else s.tbu.windowW
        tstate := .locked
        holdoverAge := if s.tbu.tstate = .locked then s.tbu.holdoverAge else 0
        leaps := r
        newestTick := t.tbu.newestTick
        tickWaits := s.tbu.tickWaits && decide (early = false ∧ s.tbu.c * 1000000000 / s.tbu.nSec = 0) } ∧
      t.ntq = (if s.tbu.tstate = .locked then q
        else q.took s.tbu.uptime (.timeState s.tbu.tstate .locked x.label))

/-- An edge outside every window, or in a matched one, is rejected and kept as a step candidate, until three are
consistent (01 R8): nothing else changes. Which edge lies outside, an early one by the w in force and a late one by the w
latched at its rollover, is log 6 (DESIGN CHOICE, unsafe). -/
def Obligations.PpsEdgeRejected : Prop :=
  ∀ (s : State) (rising : Bool) (n : Nat),
    s.activeEdge rising → s.tbu.timeSet = true → s.tbu.policy.w < s.tbu.nSec - s.tbu.c →
    (s.tbu.windowW < s.tbu.c ∨ s.tbu.window = .matched) →
    n = (if s.tbu.stepCount = 0 then 1
      else if 49990000 ≤ s.tbu.candInterval ∧ s.tbu.candInterval ≤ 50010000 then s.tbu.stepCount + 1 else 1) →
    n < 3 →
    exec (.ppsEdge rising) s = .next { s with
      pins := { s.pins with pps := rising }
      tbu := { s.tbu with
        stepCount := n
        candInterval := 0
        flags := { s.tbu.flags with ppsRejected := true } } }

/-- The third consistent candidate edge steps the clock (01 R9): Δ is the edge's position against the rollover, wrapped;
the second restarts, or the next begins, applying the leap event it passes (01 R14); LEAP, TIME_STEP, then TIME_STATE when
the part was not LOCKED (01 R12). Which edge lies outside the windows, an early one by the w in force and a late one by the
w latched at its rollover, is log 6 (DESIGN CHOICE); that Δ = 0 restarts the second is log 20 (DEDUCED). -/
def Obligations.PhaseStepMade : Prop :=
  ∀ (s : State) (rising : Bool) (d : Int) (r : Leaps) (f : TimeFlags) (q : Ntq),
    s.activeEdge rising → s.tbu.timeSet = true → s.tbu.policy.w < s.tbu.nSec - s.tbu.c →
    (s.tbu.windowW < s.tbu.c ∨ s.tbu.window = .matched) →
    s.tbu.stepCount = 2 → 49990000 ≤ s.tbu.candInterval → s.tbu.candInterval ≤ 50010000 →
    d = (if 2 * s.tbu.c ≤ s.tbu.nSec then (s.tbu.c : Int) else (s.tbu.c : Int) - (s.tbu.nSec : Int)) →
    ((0 ≤ d ∨ s.leaps.applies s.tbu.second = none) ∧ r = s.leaps ∧ f = s.tbu.flags ∧ q = s.ntq ∨
      d < 0 ∧ ∃ e, s.leaps.applies s.tbu.second = some e ∧ r = ⟨none, some e⟩ ∧
        f = { s.tbu.flags with leapApplied := true } ∧ q = s.ntq.took s.tbu.uptime (.leap e.dir e.second)) →
    ∃ t : State, exec (.ppsEdge rising) s = .next t ∧ s.TimeEvent t ∧
      t.tbu.c = 0 ∧ t.tbu.second = (if d < 0 then s.leaps.succ s.tbu.second else s.tbu.second) ∧
      t.tbu.nSec = s.tbu.candInterval ∧ t.tbu.lastError = d ∧ t.tbu.missCount = 0 ∧ t.tbu.stepCount = 0 ∧
      t.tbu.candInterval = 0 ∧ t.tbu.holdoverAge = 0 ∧ t.tbu.tstate = .locked ∧
      t.tbu.flags = { f with stepped := true, ppsRejected := true } ∧
      t.ntq = (if s.tbu.tstate = .locked then q.took s.tbu.uptime (.timeStep d)
        else (q.took s.tbu.uptime (.timeStep d)).took s.tbu.uptime
          (.timeState s.tbu.tstate .locked t.tbu.second.label)) ∧
      t.tbu.uptime = s.tbu.uptime ∧ t.tbu.policy = s.tbu.policy ∧ t.tbu.leaps = r

/-- On the cycle on which c reaches N_sec (log 3, DEDUCED, unsafe) the second rolls over: c is 0, the label advances by succession, with the
leap event that this applies (01 R14), the window opens; in HOLDOVER and FREE the age advances, and HOLDOVER at its limit
becomes FREE, its TIME_STATE after the LEAP (01 R5, R10, R12). The cycle counts as any other, and the notices carry the
uptime after it: log 40; they are posted before a NOTICE that ends on the same cycle frees its place: log 43 (both DESIGN
CHOICE, unsafe). -/
def Obligations.SecondRolls : Prop :=
  ∀ (s : State) (age : Nat) (now : Uptime) (r : Leaps) (f : TimeFlags) (q : Ntq),
    s.tbu.timeSet = true → s.tbu.nSec ≤ s.tbu.c + 1 →
    age = (if s.tbu.tstate = .locked then s.tbu.holdoverAge else min (s.tbu.holdoverAge + 1) 4294967295) →
    now = (if s.tbu.usPhase < 49 then s.tbu.uptime else s.tbu.uptime + 1) →
    (s.leaps.applies s.tbu.second = none ∧ r = s.leaps ∧ f = s.tbu.flags ∧ q = s.ntq ∨
      ∃ e, s.leaps.applies s.tbu.second = some e ∧ r = ⟨none, some e⟩ ∧ f = { s.tbu.flags with leapApplied := true } ∧
        q = s.ntq.took now (.leap e.dir e.second)) →
    ∃ t : State, exec .secondRollover s = .next t ∧
      t.tbu = { s.tbu with
        c := 0
        second := s.leaps.succ s.tbu.second
        window := .opened
        windowW := s.tbu.policy.w
        holdoverAge := age
        tstate := t.tbu.tstate
        leaps := r
        flags := f
        usPhase := if s.tbu.usPhase < 49 then s.tbu.usPhase + 1 else 0
        uptime := now
        candInterval := min (s.tbu.candInterval + 1) 50010001
        newestTick := t.tbu.newestTick
        tickWaits := false } ∧
      (s.tbu.tstate = .holdover → [64, 256, 1024, 4096].getD s.tbu.policy.limitCode 4096 ≤ age →
        t.tbu.tstate = .free ∧
          t.ntq = q.took now (.timeState .holdover .free (s.leaps.succ s.tbu.second).label)) ∧
      (s.tbu.tstate ≠ .holdover ∨ age < [64, 256, 1024, 4096].getD s.tbu.policy.limitCode 4096 →
        t.tbu.tstate = s.tbu.tstate ∧ t.ntq = q) ∧
      t.pending = s.pending ∧ t.pins = s.pins ∧ t.straps = s.straps ∧ t.streams = s.streams ∧
      t.sourceMap = s.sourceMap ∧ t.fck = s.fck ∧ t.rqh = s.rqh ∧ t.lki.inbound = s.lki.inbound ∧
      t.lki.replies = s.lki.replies

/-- A pending leap event is applied by the advance that passes it: of an INSERT at S from (S, clear) into (S, set), of a
DELETE at S from (S - 1, clear) into (S + 1, clear), and by no other (01 R13, R14). At such a rollover, in LOCKED, HOLDOVER
or FREE, it becomes the last applied event, LEAP_APPLIED is set and LEAP is posted, ahead of the TIME_STATE of a HOLDOVER
that has reached its limit (01 R10, R12); without one the records stay. The cycle of the rollover is log 3 (DEDUCED, unsafe),
and the uptime of its notices log 40 (DESIGN CHOICE, unsafe). -/
def Obligations.LeapApplied : Prop :=
  ∀ (s : State) (x : SecondLabel), s.leaps.last = none →
    (∀ (e : LeapEvent) (y : Second), s.leaps.pending = some e →
      s.leaps.applies y =
        (if y = ⟨if e.dir = .ins then e.second else e.second - 1, false⟩ then some e else none)) ∧
    (∀ y, s.leaps.pending = none → s.leaps.applies y = none) ∧
    (s.tbu.timeSet = true → s.tbu.nSec ≤ s.tbu.c + 1 →
      (s.leaps.pending = some ⟨x, .ins⟩ → s.tbu.second = ⟨x, false⟩ →
        ∃ (t : State) (q : Ntq), exec .secondRollover s = .next t ∧ t.tbu.second = ⟨x, true⟩ ∧
          t.leaps = ⟨none, some ⟨x, .ins⟩⟩ ∧ t.tbu.flags = { s.tbu.flags with leapApplied := true } ∧
          q = s.ntq.took t.tbu.uptime (.leap .ins x) ∧
          t.ntq = (if t.tbu.tstate = s.tbu.tstate then q else q.took t.tbu.uptime (.timeState .holdover .free x))) ∧
      (s.leaps.pending = some ⟨x, .del⟩ → s.tbu.second = ⟨x - 1, false⟩ →
        ∃ (t : State) (q : Ntq), exec .secondRollover s = .next t ∧ t.tbu.second = ⟨x + 1, false⟩ ∧
          t.leaps = ⟨none, some ⟨x, .del⟩⟩ ∧ t.tbu.flags = { s.tbu.flags with leapApplied := true } ∧
          q = s.ntq.took t.tbu.uptime (.leap .del x) ∧
          t.ntq = (if t.tbu.tstate = s.tbu.tstate then q
            else q.took t.tbu.uptime (.timeState .holdover .free (x + 1)))) ∧
      (s.leaps.pending = none →
        ∃ t : State, exec .secondRollover s = .next t ∧ t.tbu.second = ⟨s.tbu.second.label + 1, false⟩ ∧
          t.leaps = s.leaps ∧ t.tbu.flags = s.tbu.flags ∧
          t.ntq = (if t.tbu.tstate = s.tbu.tstate then s.ntq
            else s.ntq.took t.tbu.uptime (.timeState .holdover .free (s.tbu.second.label + 1)))))

/-- In LOCKED, c past the window of a rollover without an accepted edge counts one miss; at the miss limit HOLDOVER is
entered (01 R7). -/
def Obligations.MissCounted : Prop :=
  ∀ s : State, s.tbu.tstate = .locked → s.tbu.window = .opened → s.tbu.windowW < s.tbu.c →
    (s.tbu.missCount + 1 < s.tbu.policy.missLimit →
      exec .ppsMissed s = .next { s with
        tbu := { s.tbu with
          missCount := s.tbu.missCount + 1
          window := .missed
          flags := { s.tbu.flags with ppsMissed := true } } }) ∧
    (s.tbu.policy.missLimit ≤ s.tbu.missCount + 1 →
      exec .ppsMissed s = .next { s with
        tbu := { s.tbu with
          tstate := .holdover
          missCount := 0
          holdoverAge := 0
          window := .missed
          flags := { s.tbu.flags with ppsMissed := true } }
        ntq := s.ntq.took s.tbu.uptime (.timeState .locked .holdover s.tbu.second.label) })

/-- The label found for a tick is the latest whose instant is at or before local time (01 R16, R17). -/
def Obligations.LatestInstantFound : Prop :=
  ∀ f ns : Nat, 1 ≤ f → ns < 1000000000 →
    latestIndex f ns < f ∧ (2 * latestIndex f ns * 1000000000 + f) / (2 * f) ≤ ns ∧
      ∀ i, (2 * i * 1000000000 + f) / (2 * f) ≤ ns → i ≤ latestIndex f ns

/-- A tick goes to the latest label at or before local time when none was ticked before, or when that label is later, by its
index in the same second or by succession (01 R13, R17); after a changed Fout none goes until local time has changed (01 R18;
log 18). Outside RUNNING the buffer ignores it (05 R93). In RUNNING it
ignores a label earlier than B; otherwise the frontier becomes the later of itself and the label, and every FREE slot of the
window, in label order up to the frontier, opens with cause TICK as an opened slot does, the others staying as they were
(05 R96). -/
def Obligations.GridTickDelivered : Prop :=
  ∀ (s : State) (l : Label),
    (s.tbu.timeSet = true → l = ⟨s.tbu.second, latestIndex s.fout s.tbu.ns⟩ →
      (s.tbu.newestTick = none ∧ s.tbu.tickWaits = false ∨ ∃ m, s.tbu.newestTick = some m ∧
        (m.second = l.second ∧ m.index < l.index ∨ m.second ≠ l.second ∧ s.leaps.later m.second l.second = true)) →
      ∃ t : State, exec .outputGridTick s = .next t ∧ t.tbu = { s.tbu with newestTick := some l } ∧ s.TimeEvent t ∧
        t.ntq = s.ntq ∧ (s.alb.runState ≠ .running → t.alb = s.alb ∧ t.sem = s.sem) ∧
        (∀ b f f', s.alb.runState = .running → s.alb.base = some b → s.alb.frontier = some f → s.alb.slots.length = 128 →
          s.alb.basePos < 128 →
          (s.leaps.labelBefore s.fout l b = true → t.alb = s.alb ∧ t.sem = s.sem) ∧
          (s.leaps.labelBefore s.fout l b = false → f' = (if s.leaps.labelBefore s.fout f l = true then l else f) →
            t.alb.frontier = some f' ∧ t.alb.base = s.alb.base ∧ t.alb.basePos = s.alb.basePos ∧
            t.alb.free = s.alb.free ∧ t.sem.late = s.sem.late ∧ t.sem.record = s.sem.record ∧
            (∀ k p w, k < 128 → p = (s.alb.basePos + k) % 128 → w = s.leaps.labelAdd s.fout k b →
              ((∀ j, j ≤ k → s.leaps.labelBefore s.fout f' (s.leaps.labelAdd s.fout j b) = false) →
                t.slotAt p = (openIfVacant p w .tick s).slotAt p) ∧
              (s.leaps.labelBefore s.fout f' w = true → t.slotAt p = s.slotAt p))))) ∧
    (s.tbu.timeSet = true → l = ⟨s.tbu.second, latestIndex s.fout s.tbu.ns⟩ →
      (∃ m, s.tbu.newestTick = some m ∧
        (m.second = l.second ∧ l.index ≤ m.index ∨ m.second ≠ l.second ∧ s.leaps.later m.second l.second = false)) →
      exec .outputGridTick s = .next s) ∧
    (s.tbu.newestTick = none → s.tbu.tickWaits = true → exec .outputGridTick s = .next s) ∧
    (s.tbu.timeSet = false → exec .outputGridTick s = .next s)

/-- A FREE slot that opens for a label takes its cause, an empty present map, the grade of the moment, the LOCKED streams
whose grid contains the label, and its deadline window; it seals at once with cause DEADLINE when the signed difference from
its label's instant to local time is W·1,000 ns or more already (05 R97, R104, 04 R82, R86 to R88). The grade is A in LOCKED,
B or C in HOLDOVER with the age below a quarter of the holdover limit or not, D in FREE, and none otherwise (01 R11). That a
limit just written by TIME_POLICY counts before the next rollover is log 44 (DESIGN CHOICE, unsafe). -/
def Obligations.SlotOpened : Prop :=
  ∀ (s : State) (pos : Nat) (l : Label) (cause : OpenCause), s.alb.slots.length = 128 → pos < 128 →
    s.slotAt pos = .vacant →
    ∃ (t : State) (d : SlotData), t = openIfVacant pos l cause s ∧
      (s.tbu.timeSet = false → t.slotAt pos = .opened d) ∧
      (s.tbu.timeSet = true →
        t.slotAt pos = (if (d.window * 1000 : Int) ≤
            s.leaps.diff ⟨l.second, (2 * l.index * 1000000000 + s.fout) / (2 * s.fout)⟩
              ⟨s.tbu.second, s.tbu.c * 1000000000 / s.tbu.nSec⟩
          then .sealed .deadline d else .opened d)) ∧
      d.label = l ∧ d.openCause = cause ∧ d.grade = s.tbu.grade ∧ d.present = [] ∧ d.expectedPresent = 0 ∧
      s.tbu.grade = (match s.tbu.tstate with
        | .unset | .acquiring => .none
        | .locked => .a
        | .holdover => if s.tbu.holdoverAge < [16, 64, 256, 1024].getD s.tbu.policy.limitCode 1024 then .b else .c
        | .free => .d) ∧
      (∀ n, n ∈ d.expected ↔ n < 256 ∧ (s.stream n).state = .locked ∧
        ∃ x, (s.stream n).layout = some x ∧ l.index * rateOf x.shape.rateCode % s.fout = 0) ∧
      (s.rqh.config.mode = .fixed → d.window = s.rqh.config.wFixed * 1000) ∧
      (s.rqh.config.mode = .adaptive →
        (∀ n ∈ d.expected, (s.stream n).seedMark = true ∨ (s.stream n).lhat = none) →
        d.window = s.rqh.config.wMax * 1000) ∧
      (∀ n v, s.rqh.config.mode = .adaptive → n ∈ d.expected → (s.stream n).seedMark = false →
        (s.stream n).lhat = some v →
        (∀ m ∈ d.expected, ∀ u, (s.stream m).seedMark = false → (s.stream m).lhat = some u → u ≤ v) →
        d.window = max (s.rqh.config.wMin * 1000)
          (min (s.rqh.config.wMax * 1000) (v + s.rqh.config.margin * 1000))) ∧
      d.deadline = s.leaps.advance (l.instant s.fout) (d.window * 1000) ∧
      t.alb.openings = (if cause = .tick then min (s.alb.openedTick + 1) 4294967295 + s.alb.openedFrame
        else s.alb.openedTick + min (s.alb.openedFrame + 1) 4294967295) ∧
      (∀ q, q ≠ pos → t.slotAt q = s.slotAt q) ∧ t.alb.free = s.alb.free ∧ t.streams = s.streams ∧ t.ntq = s.ntq ∧
      t.tbu = s.tbu ∧ t.lki = s.lki ∧ t.rqh = s.rqh ∧ t.sem.late = s.sem.late

/-- At a deadline arrival every OPEN slot whose deadline local time has reached, that is, whose label's instant lies W·1,000
ns or more before it by the signed difference of 04 R76, seals with cause DEADLINE, keeping what it holds; every other slot
stays, and with time not set nothing seals (04 R88, 05 R104, R106). -/
def Obligations.DeadlinesSeal : Prop :=
  ∀ s : State, s.alb.slots.length = 128 → ∃ t : State, exec .deadlineArrival s = .next t ∧
    (∀ pos, t.slotAt pos = match s.slotAt pos with
      | .opened d =>
        if s.tbu.timeSet = true ∧ (d.window * 1000 : Int) ≤
            s.leaps.diff ⟨d.label.second, (2 * d.label.index * 1000000000 + s.fout) / (2 * s.fout)⟩
              ⟨s.tbu.second, s.tbu.c * 1000000000 / s.tbu.nSec⟩
        then .sealed .deadline d else .opened d
      | x => x) ∧
    t.alb.free = s.alb.free ∧ t.alb.base = s.alb.base ∧ t.tbu = s.tbu ∧ t.ntq = s.ntq ∧ s.TimeEvent t

/-! ### Streams -/

/-- At its silence limit an UP path goes DOWN with PATH_STATE; when the other path is DOWN too and the stream is LOCKED or
FAULTED, it enters SILENT with STREAM_STATE after it, and when it was LOCKED no OPEN slot expects it any more (03 R58, R59,
R61, 05 R108). -/
def Obligations.SilenceExpires : Prop :=
  ∀ (s : State) (n : Nat) (p : Path) (l : StreamLayout) (last : Uptime),
    s.streams.length = 256 → s.alb.slots.length = 128 → n < 256 →
    (s.stream n).layout = some l → ((s.stream n).path p).up = true → ((s.stream n).path p).last = some last →
    (s.stream n).silenceCount * 1000000 / rateOf l.shape.rateCode ≤ (s.tbu.uptime - last).toNat →
    ∃ t : State, exec (.silenceExpiry n p) s = .next t ∧
      ((t.stream n).path p).up = false ∧ (t.stream n).path (otherPath p) = (s.stream n).path (otherPath p) ∧
      (∀ m, m ≠ n → t.stream m = s.stream m) ∧ t.tbu = s.tbu ∧ t.lki = s.lki ∧ t.rqh = s.rqh ∧ t.fck = s.fck ∧
      t.sourceMap = s.sourceMap ∧
      (((s.stream n).path (otherPath p)).up = true ∨
          (s.stream n).state ≠ .locked ∧ (s.stream n).state ≠ .faulted →
        (t.stream n).state = (s.stream n).state ∧ t.alb = s.alb ∧
          t.ntq = s.ntq.took s.tbu.uptime (.pathState n true false p)) ∧
      (((s.stream n).path (otherPath p)).up = false →
          (s.stream n).state = .locked ∨ (s.stream n).state = .faulted →
        (t.stream n).state = .silent ∧ (t.stream n).goodCount = 0 ∧
          (t.stream n).counters.silentEntries = min ((s.stream n).counters.silentEntries + 1) 4294967295 ∧
          t.ntq = (s.ntq.took s.tbu.uptime (.pathState n true false p)).took s.tbu.uptime
            (.streamState n (s.stream n).state .silent .silence) ∧
          ((s.stream n).state = .locked → ∀ pos d, t.slotAt pos = .opened d → n ∉ d.expected))

/-! ### The receiver -/

/-- A whole REQUEST or FIELD message of at most 480 payload bytes, sent on an idle line to a receiver that hunts, joins the
inbound queue as it was sent (07 R142, R143, R145 to R147, 10 R198, R200). The line's samples are the operand, and the
bytes of one command share an uptime (log 15). -/
def Obligations.GoodMessageAccepted : Prop :=
  ∀ (s : State) (tag : Byte) (credit : Nat) (payload : List Byte) (isField : Bool),
    s.lki.gate = .opened → s.lki.rxMode = .hunt → s.lki.rxLine = .wait true → s.lki.inbound.length < 32 →
    payload.length ≤ 480 →
    exec (.receiveMessage (lineBytes (messageBytes (if isField = true then 0x02 else 0x01) tag credit payload))) s =
      .next { s with
        lki := { s.lki with
          rxUnderReset := false
          lastByte := s.tbu.uptime
          inbound := s.lki.inbound ++ [if isField = true then .field tag payload else .request tag payload]
          accepted := min (s.lki.accepted + 1) 4294967295 } }

/-- What does not reach the inbound queue as it was sent, with the link at rest before each message, any credit byte, and
REQUEST and FIELD alike. A wrong payload check word is counted CHECK_ERROR (07 R147). More than 480 payload bytes are
skipped and counted TOO_LONG, a REQUEST leaving its length note, which a full queue drops as OVERRUN (07 R146, R149). A good
message for a full queue is dropped as OVERRUN, with LINK_OVERRUN when its mark is armed (07 R147). A class other than the
two is skipped and counted UNKNOWN_CLASS (07 R146). A failed header check is counted HEADER_ERROR, and the hunt resumes at
the byte after its SYNC byte, so a SYNC byte among the six gathers the bytes behind it (07 R145). While the gate is RESETTING
every message with a good header is passed over and adds one to the discard count (07 R160). While it is CLOSED bytes are
ignored (07 R158). The line's samples are the operand, and the bytes of one command share an uptime (log 15, DESIGN CHOICE,
unsafe); bytes hunted through again take the uptime of the failure (log 22). -/
def Obligations.BadMessagesRefused : Prop :=
  ∀ (s : State) (cls tag : Byte) (credit : Nat) (payload : List Byte),
    s.lki.rxMode = .hunt → s.lki.rxLine = .wait true →
    (∀ w, s.lki.gate = .opened → cls = 0x01 ∨ cls = 0x02 → w < 65536 → w ≠ (crc16 payload).toNat → payload.length ≤ 480 →
      exec (.receiveMessage (lineBytes ([syncByte] ++ headerBody cls tag payload.length credit
          ++ [crc8 (headerBody cls tag payload.length credit)] ++ payload ++ be 2 w))) s =
        .next { s with
          lki := { s.lki with
            rxUnderReset := false
            lastByte := s.tbu.uptime
            checkError := min (s.lki.checkError + 1) 4294967295 } }) ∧
    (s.lki.gate = .opened → cls = 0x02 ∨ cls = 0x01 ∧ s.lki.inbound.length < 32 → 480 < payload.length →
      payload.length < 65536 →
      exec (.receiveMessage (lineBytes (messageBytes cls tag credit payload))) s =
        .next { s with
          lki := { s.lki with
            rxUnderReset := false
            lastByte := s.tbu.uptime
            tooLong := min (s.lki.tooLong + 1) 4294967295
            inbound := if cls = 0x01 then s.lki.inbound ++ [.lengthNote tag] else s.lki.inbound } }) ∧
    (s.lki.gate = .opened → cls = 0x01 → 32 ≤ s.lki.inbound.length → 480 < payload.length → payload.length < 65536 →
      exec (.receiveMessage (lineBytes (messageBytes cls tag credit payload))) s =
        .next { s with
          lki := { s.lki with
            rxUnderReset := false
            lastByte := s.tbu.uptime
            tooLong := min (s.lki.tooLong + 1) 4294967295
            overrun := min (s.lki.overrun + 1) 4294967295
            overrunArmed := false }
          ntq := if s.lki.overrunArmed = true then s.ntq.took s.tbu.uptime (.linkOverrun 0x01) else s.ntq }) ∧
    (s.lki.gate = .opened → cls = 0x01 ∨ cls = 0x02 → payload.length ≤ 480 → 32 ≤ s.lki.inbound.length →
      exec (.receiveMessage (lineBytes (messageBytes cls tag credit payload))) s =
        .next { s with
          lki := { s.lki with
            rxUnderReset := false
            lastByte := s.tbu.uptime
            overrun := min (s.lki.overrun + 1) 4294967295
            overrunArmed := false }
          ntq := if s.lki.overrunArmed = true then s.ntq.took s.tbu.uptime (.linkOverrun cls) else s.ntq }) ∧
    (s.lki.gate = .opened → cls ≠ 0x01 → cls ≠ 0x02 → payload.length < 65536 →
      exec (.receiveMessage (lineBytes (messageBytes cls tag credit payload))) s =
        .next { s with
          lki := { s.lki with
            rxUnderReset := false
            lastByte := s.tbu.uptime
            unknownClass := min (s.lki.unknownClass + 1) 4294967295 } }) ∧
    (∀ six : List Byte, s.lki.gate = .opened → six.length = 6 → six.getD 5 0 ≠ crc8 (six.take 5) →
      exec (.receiveMessage (lineBytes (syncByte :: six))) s =
        .next { s with
          lki := { s.lki with
            rxUnderReset := false
            lastByte := s.tbu.uptime
            headerError := min (s.lki.headerError + 1) 4294967295
            rxMode := match six.dropWhile (· ≠ syncByte) with
              | [] => .hunt
              | _ :: rest => .header rest } }) ∧
    (s.lki.gate = .resetting → payload.length < 65536 →
      exec (.receiveMessage (lineBytes (messageBytes cls tag credit payload))) s =
        .next { s with
          lki := { s.lki with
            rxUnderReset := false
            lastByte := s.tbu.uptime
            discard := min (s.lki.discard + 1) 65535 } }) ∧
    (∀ bytes, s.lki.gate = .closed → exec (.receiveMessage (lineBytes bytes)) s = .next s)

/-- 2,000 µs without a byte part-way through a message abandon it: TRUNCATED is counted and the receiver hunts; in HUNT, or
before the gap, nothing happens (07 R148). So it is with a message under 07 R160. One of those whose header was not good yet
adds nothing to the discard count; one that is passed over adds one in all, at its good header or at the truncation. Which of
the two the spec leaves open: `early` is a free constant (log 8). -/
def Obligations.TruncatedAbandons : Prop :=
  ∃ early : Bool, ∀ s : State,
    (s.lki.rxMode ≠ .hunt → s.lki.rxUnderReset = false ∨ (∃ got, s.lki.rxMode = .header got) →
      2000 ≤ (s.tbu.uptime - s.lki.lastByte).toNat →
      exec .truncated s = .next { s with
        lki := { s.lki with
          rxMode := .hunt
          rxUnderReset := false
          truncated := min (s.lki.truncated + 1) 4294967295 } }) ∧
    (∀ (left : Nat) (note : Option Byte), s.lki.rxMode = .skip left note → s.lki.rxUnderReset = true →
      2000 ≤ (s.tbu.uptime - s.lki.lastByte).toNat →
      exec .truncated s = .next { s with
        lki := { s.lki with
          rxMode := .hunt
          rxUnderReset := false
          truncated := min (s.lki.truncated + 1) 4294967295
          discard := if early = true then s.lki.discard else min (s.lki.discard + 1) 65535 } }) ∧
    (∀ (cls tag : Byte) (length credit : Nat), s.lki.gate = .resetting → s.lki.rxMode = .hunt →
      s.lki.rxLine = .wait true → length < 65536 →
      exec (.receiveMessage (lineBytes ([syncByte] ++ headerBody cls tag length credit
          ++ [crc8 (headerBody cls tag length credit)]))) s =
        .next { s with
          lki := { s.lki with
            rxMode := .skip (length + 2) none
            rxUnderReset := true
            lastByte := s.tbu.uptime
            discard := if early = true then min (s.lki.discard + 1) 65535 else s.lki.discard } }) ∧
    (s.lki.rxMode = .hunt ∨ (s.tbu.uptime - s.lki.lastByte).toNat < 2000 → exec .truncated s = .next s)

/-! ### Field frames -/

/-- Frames that fail steps 1 to 4 are counted part-wide, change no stream record and free their entry, whether the frame
was in hand already or is taken by this command (02 R23, R29 to R31, 07 R150); with the transmitter IDLE and no message but
a FLOW waiting, the FLOW flag is then set (07 R153). -/
def Obligations.UnattributedFramesDiscarded : Prop :=
  ∀ (s : State) (k : Reading) (tag : Byte) (frame : List Byte), s.lki.inbound.head? = some (.field tag frame) →
    s.ReadWith k →
    ∃ t : State, exec .fieldFrame s = .next t ∧
      t.lki = { s.lki with inbound := s.lki.inbound.tail, flowPending := t.lki.flowPending } ∧
      (t.lki.flowPending = true ↔ s.lki.flowPending = true ∨ s.lki.tx = none ∧ s.lki.replies = [] ∧ t.ntq.records = [] ∧
        t.sem.late = [] ∧ ∀ q l, t.sem.cursor ≠ .offered q l) ∧
      (frame.length < 13 ∨ field frame 2 1 ≠ 1 ∧ (field frame 2 1 ≠ 2 ∨ frame.length ≠ 13) →
        t.fck = { s.fck with malformed := min (s.fck.malformed + 1) 4294967295, inHand := none } ∧
          t.streams = s.streams ∧ t.ntq = s.ntq ∧ t.alb = s.alb ∧ t.sem = s.sem ∧ t.tbu = s.tbu) ∧
      (frameShapeGood frame = true → frameCheckGood frame = false →
        t.fck = { s.fck with checkError := min (s.fck.checkError + 1) 4294967295, inHand := none } ∧
          t.streams = s.streams ∧ t.ntq = s.ntq ∧ t.alb = s.alb ∧ t.sem = s.sem ∧ t.tbu = s.tbu) ∧
      (frameShapeGood frame = true → frameCheckGood frame = true → tag ≠ 0 → tag ≠ 1 →
        t.fck = { s.fck with badPath := min (s.fck.badPath + 1) 4294967295, inHand := none } ∧
          t.streams = s.streams ∧ t.ntq = s.ntq ∧ t.alb = s.alb ∧ t.sem = s.sem ∧ t.tbu = s.tbu) ∧
      (frameShapeGood frame = true → frameCheckGood frame = true → tag = 0 ∨ tag = 1 →
        (∀ n, (field frame 0 2, n) ∉ s.sourceMap) →
        t.fck = { s.fck with
          unknownSource := min (s.fck.unknownSource + 1) 4294967295
          armed := false
          inHand := none } ∧
          t.ntq = (if s.fck.armed = true then s.ntq.took s.tbu.uptime (.unknownSource (field frame 0 2)) else s.ntq) ∧
          t.streams = s.streams ∧ t.alb = s.alb ∧ t.sem = s.sem ∧ t.tbu = s.tbu)

/-- Frames of a known source that do not become good. A DATA frame for a LEARNING stream is counted NO_LAYOUT and nothing
else (02 R32). The first failure of steps 6 to 10, or a LAYOUT frame with a field out of range, is a stream error: its own
counter and the error count rise, the good count is 0, a regression sets the sequence flag, and at E a WAITING, LOCKED or
SILENT stream enters FAULTED, an unlocked one leaving every OPEN slot's expected set (02 R27, R33 to R36, 04 R77, 03 R47).
A LAYOUT frame in range is counted NOMINAL_MISMATCH against the strap (03 R52), is learned by a stream without a layout
(03 R53), is compared with a PINNED one, its mismatch notice posted once per mark (03 R54), and replaces a differing LEARNED
one, with the paths whose recomputed limit has passed going DOWN, path A's notice first (03 R55; log 13, DEDUCED; log
36, DESIGN CHOICE; at a difference equal to the limit, log 38, DESIGN CHOICE; all three unsafe). Every notice carries the
uptime of its event. -/
def Obligations.StreamErrorsCounted : Prop :=
  ∀ (s : State) (k : Reading) (tag : Byte) (frame : List Byte) (n : Nat) (r : StreamRec),
    s.streams.length = 256 → s.alb.slots.length = 128 → n < 256 →
    s.lki.inbound.head? = some (.field tag frame) → s.ReadWith k →
    frameShapeGood frame = true → frameCheckGood frame = true → tag = 0 ∨ tag = 1 →
    s.lookupSource (field frame 0 2) = some n → r = s.stream n →
    ∃ t : State, exec .fieldFrame s = .next t ∧
      (field frame 2 1 = 1 → r.state = .learning →
        t.lki.inbound = s.lki.inbound.tail ∧
        t.stream n = { r with counters := { r.counters with noLayout := min (r.counters.noLayout + 1) 4294967295 } } ∧
        (∀ m, m ≠ n → t.stream m = s.stream m) ∧ t.alb = s.alb ∧ t.ntq = s.ntq ∧
        t.fck = { s.fck with inHand := none } ∧ t.sem = s.sem ∧ t.tbu = s.tbu) ∧
      (∀ (c : StreamCounters) (sq out : Bool),
        s.StreamError k frame r c sq →
        out = decide (r.errThreshold ≤ min (r.errCount + 1) 15 ∧
          (r.state = .waiting ∨ r.state = .locked ∨ r.state = .silent)) →
        t.lki.inbound = s.lki.inbound.tail ∧
        t.stream n = { r with
          errCount := min (r.errCount + 1) 15
          goodCount := 0
          seqFlag := sq
          state := if out = true then .faulted else r.state
          counters := { c with faultEntries := if out = true then min (c.faultEntries + 1) 4294967295 else c.faultEntries } } ∧
        t.ntq = (if out = true then s.ntq.took s.tbu.uptime (.streamState n r.state .faulted .errors) else s.ntq) ∧
        (out = true → r.state = .locked → ∀ pos d, t.slotAt pos = .opened d → n ∉ d.expected) ∧
        (out = false ∨ r.state ≠ .locked → t.alb = s.alb ∧ t.sem = s.sem) ∧
        t.alb.free = s.alb.free ∧ t.sem.late = s.sem.late ∧
        (∀ m, m ≠ n → t.stream m = s.stream m) ∧ t.fck = { s.fck with inHand := none } ∧ t.tbu = s.tbu) ∧
      (∀ (l : Layout) (nominal : Nat), field frame 2 1 = 2 →
        l = ⟨field frame 3 1, field frame 4 3, field frame 7 1, field frame 8 1, field frame 9 1⟩ →
        l.rateCode ≤ 12 → 1 ≤ l.timeBase → l.phasors ≤ 12 → l.analogs ≤ 4 → l.digitals ≤ 2 →
        nominal = (if s.straps.nomf = true then 60 else 50) →
        t.lki.inbound = s.lki.inbound.tail ∧ t.fck = { s.fck with inHand := none } ∧ t.tbu = s.tbu ∧
        (∀ m, m ≠ n → t.stream m = s.stream m) ∧
        (field frame 10 1 = 110 - nominal →
          t.stream n = { r with counters := { r.counters with
            nominalMismatch := min (r.counters.nominalMismatch + 1) 4294967295 } } ∧
          t.ntq = s.ntq ∧ t.alb = s.alb) ∧
        (field frame 10 1 = nominal → r.layout = none →
          t.stream n = { r with
            layout := some ⟨l, .learned⟩
            hold := none
            errCount := 0
            state := .waiting
            counters := { r.counters with layoutLearned := min (r.counters.layoutLearned + 1) 4294967295 } } ∧
          t.ntq = (s.ntq.took s.tbu.uptime (.layoutChange n l.rateCode)).took s.tbu.uptime
            (.streamState n r.state .waiting .layout) ∧ t.alb = s.alb) ∧
        (∀ y, field frame 10 1 = nominal → r.layout = some y → y.shape = l →
          t.stream n = { r with counters := { r.counters with
            layoutConfirm := min (r.counters.layoutConfirm + 1) 4294967295 } } ∧
          t.ntq = s.ntq ∧ t.alb = s.alb) ∧
        (∀ y, field frame 10 1 = nominal → r.layout = some y → y.shape ≠ l → y.origin = .pinned →
          t.stream n = { r with
            mismatchArmed := false
            counters := { r.counters with layoutMismatch := min (r.counters.layoutMismatch + 1) 4294967295 } } ∧
          t.ntq = (if r.mismatchArmed = true then s.ntq.took s.tbu.uptime (.layoutMismatch n l.rateCode) else s.ntq) ∧
          t.alb = s.alb) ∧
        (∀ y (limit : Nat) (downA downB : Bool) (q q' q'' : Ntq),
          field frame 10 1 = nominal → r.layout = some y → y.shape ≠ l → y.origin = .learned →
          limit = r.silenceCount * 1000000 / rateOf l.rateCode →
          (downA = true ↔ r.pathA.up = true ∧ ∃ u, r.pathA.last = some u ∧ limit ≤ (s.tbu.uptime - u).toNat) →
          (downB = true ↔ r.pathB.up = true ∧ ∃ u, r.pathB.last = some u ∧ limit ≤ (s.tbu.uptime - u).toNat) →
          q = (if downA = true then s.ntq.took s.tbu.uptime (.pathState n true false .a) else s.ntq) →
          q' = (if downB = true then q.took s.tbu.uptime (.pathState n true false .b) else q) →
          q'' = q'.took s.tbu.uptime (.layoutChange n l.rateCode) →
          t.stream n = { r with
            layout := some ⟨l, .learned⟩
            hold := none
            errCount := 0
            goodCount := 0
            state := .waiting
            pathA := { r.pathA with up := r.pathA.up && !downA }
            pathB := { r.pathB with up := r.pathB.up && !downB }
            counters := { r.counters with layoutLearned := min (r.counters.layoutLearned + 1) 4294967295 } } ∧
          t.ntq = (if r.state = .waiting then q'' else q''.took s.tbu.uptime (.streamState n r.state .waiting .layout)) ∧
          (r.state = .locked → ∀ pos d, t.slotAt pos = .opened d → n ∉ d.expected) ∧
          (r.state ≠ .locked → t.alb = s.alb)))

/-- A good frame of an enabled stream, one that passes steps 1 to 10. Step 11 (02 R37): GOOD is counted, its path is UP and
refreshed from the reading, its instant is the newest when it is the first or later (03 R67), the error count is 0, a
WAITING or SILENT stream is LOCKED (03 R48), a FAULTED one by the fourth good frame in a row (03 R49), and with time set in
the reading a latency sample seeds or filters Lhat (03 R64, 04 R79). Off the output grid it is DECIMATED (02 R38). On it,
the cell it forms (02 R25, R39), its angles turned back by the rotation when that is enabled and due (04 R83 to R85), is
placed in RUNNING, and otherwise STANDBY_DISCARD. Its entry is then freed. The notices carry the uptime of the event. -/
def Obligations.GoodFrameLocks : Prop :=
  ∀ (s g : State) (k : Reading) (tag : Byte) (frame : List Byte) (n : Nat) (p : Path) (r : StreamRec) (l : StreamLayout)
    (x : Snapped) (fs : Nat) (st : StreamState) (good : Nat) (seed : Bool) (q q' : Ntq) (y : Option Nat)
    (data : Channels) (f num rot : Int) (turned : Bool),
    s.streams.length = 256 → n < 256 →
    s.lki.inbound.head? = some (.field tag frame) → s.ReadWith k →
    frameShapeGood frame = true → frameCheckGood frame = true →
    (tag = 0 ∧ p = .a ∨ tag = 1 ∧ p = .b) →
    field frame 2 1 = 1 → s.lookupSource (field frame 0 2) = some n → r = s.stream n → r.layout = some l →
    s.Passes k frame r l.shape x → fs = rateOf l.shape.rateCode →
    q = (if (r.path p).up = true then s.ntq else s.ntq.took s.tbu.uptime (.pathState n false true p)) →
    (r.state = .locked ∧ st = .locked ∧ good = r.goodCount ∧ seed = r.seedMark ∧ q' = q ∨
      (r.state = .waiting ∨ r.state = .silent) ∧ st = .locked ∧ good = r.goodCount ∧ seed = true ∧
        q' = q.took s.tbu.uptime (.streamState n r.state .locked .goodFrame) ∨
      r.state = .faulted ∧ r.goodCount < 3 ∧ st = .faulted ∧ good = r.goodCount + 1 ∧ seed = r.seedMark ∧ q' = q ∨
      r.state = .faulted ∧ 3 ≤ r.goodCount ∧ st = .locked ∧ good = 0 ∧ seed = true ∧
        q' = q.took s.tbu.uptime (.streamState n .faulted .locked .recovery)) →
    y = k.localTime.map (fun now => (max 0 (min 4000000 (s.leaps.diff x.instant now / 1000))).toNat) →
    g = { s with
      ntq := q'
      fck := { s.fck with inHand := none }
      streams := s.streams.modify n fun _ =>
        let r' := r.modPath p fun z => { z with up := true, last := some k.uptime }
        { r' with
          newest := match r.newest with
            | none => some ⟨x.second, x.index, x.grid⟩
            | some m => if 0 < s.leaps.diff m.instant x.instant then some ⟨x.second, x.index, x.grid⟩ else some m
          errCount := 0
          state := st
          goodCount := good
          counters := { r.counters with good := min (r.counters.good + 1) 4294967295 }
          seedMark := if y.isSome = true then false else seed
          lhat := match y with
            | none => r.lhat
            | some sample => some (match r.lhat with
              | none => sample
              | some v => if seed = true then sample else filterLatency v sample)
          latencyMax := match y with
            | none => r.latencyMax
            | some sample => max r.latencyMax sample } } →
    data = readChannels l.shape frame →
    f = (if s.straps.nomf = true then 60000 else 50000) + (if data.freqDev = 0x8000#16 then 0 else data.freqDev.toInt) →
    num = f * x.offset * 65536 →
    rot = (if 0 ≤ num then (num + 500000000000) / 1000000000000 else -((-num + 500000000000) / 1000000000000)) →
    turned = (r.rotate && decide (x.offset ≠ 0) && decide (l.shape.phasors ≠ 0)) →
    exec .fieldFrame s = .next (State.freeHead
      (if x.index * s.fout % fs ≠ 0 then
        g.count n fun c => { c with decimated := min (c.decimated + 1) 4294967295 }
      else if s.alb.runState ≠ .running then
        g.count n fun c => { c with standbyDiscard := min (c.standbyDiscard + 1) 4294967295 }
      else placeCell ⟨x.second, x.index * s.fout / fs⟩
        { stream := n
          source := r.source
          path := p
          rotated := turned
          dataInvalid := bitAt frame 3 0
          trigger := bitAt frame 3 1
          srcUnlocked := bitAt frame 3 2 || !bitAt frame 11 7
          faultedSource := false
          expected := false
          uncertainty := field frame 11 1 % 16
          offset := x.offset
          arrival := k.uptime
          data := if turned = true then
              { data with phasors := data.phasors.map fun z => { z with angle := z.angle - BitVec.ofInt 16 rot } }
            else data } g))

/-! ### Placement -/

/-- A cell whose label lies in the window, at distance k ≤ 127 from B, belongs to the slot at base position + k, modulo 128
(05 R94, R99); that slot, when FREE, is first opened with cause FRAME (05 R97, R101; what it takes is SlotOpened). When it is
OPEN then and holds no cell of the stream, the cell takes the head of the free list and is stored: EXPECTED and
FAULTED_SOURCE as the slot and the record say, PLACED and the path's lead count raised; a slot it completes seals COMPLETE,
and at B it is offered to an IDLE Set Emitter (05 R98, R101, R103, R106, R114). -/
def Obligations.CellStored : Prop :=
  ∀ (s u : State) (st b l : Label) (x : Cell) (k pos number : Nat) (rest : List Nat) (d : SlotData) (full : Bool),
    s.streams.length = 256 → s.alb.slots.length = 128 → x.stream < 256 →
    s.alb.start = some st → s.alb.base = some b →
    s.leaps.labelBefore s.fout l st = false → s.leaps.labelBefore s.fout l b = false →
    s.leaps.labelDist s.fout b l = (k : Int) → k ≤ 127 → pos = (s.alb.basePos + k) % 128 →
    u = openIfVacant pos l .frame s → u.slotAt pos = .opened d → (∀ h ∈ d.present, h.cell.stream ≠ x.stream) →
    s.alb.free = number :: rest →
    (full = true ↔ x.stream ∈ d.expected ∧ d.expectedPresent + 1 = d.expected.length) →
    ∃ (t : State) (d' : SlotData), t = placeCell l x s ∧
      (s.slotAt pos = .opened d ∧ t.alb.openedFrame = s.alb.openedFrame ∨
        s.slotAt pos = .vacant ∧ d.label = l ∧ d.openCause = .frame ∧ d.present = [] ∧ d.expectedPresent = 0 ∧
          t.alb.openedFrame = min (s.alb.openedFrame + 1) 4294967295) ∧
      (⟨number, { x with
        expected := d.expected.contains x.stream
        faultedSource := decide ((s.stream x.stream).state = .faulted) }⟩ : HeldCell) ∈ d'.present ∧
      (∀ h ∈ d.present, h ∈ d'.present) ∧ d'.present.length = d.present.length + 1 ∧
      d' = { d with
        present := d'.present
        expectedPresent := if x.stream ∈ d.expected then d.expectedPresent + 1 else d.expectedPresent } ∧
      t.slotAt pos = (if full = true then .sealed .complete d' else .opened d') ∧
      t.alb.sealedComplete = (if full = true then min (s.alb.sealedComplete + 1) 4294967295 else s.alb.sealedComplete) ∧
      t.sem = (if full = true ∧ pos = s.alb.basePos ∧ s.sem.cursor = .idle then
        { s.sem with cursor := .offered pos d.label } else s.sem) ∧
      t.alb.free = rest ∧ t.alb.lowWater = min s.alb.lowWater rest.length ∧
      t.stream x.stream = { (s.stream x.stream).modPath x.path
          (fun p => { p with lead := min (p.lead + 1) 4294967295 }) with
        counters := { (s.stream x.stream).counters with
          placed := min ((s.stream x.stream).counters.placed + 1) 4294967295 } } ∧
      (∀ q, q ≠ pos → t.slotAt q = s.slotAt q) ∧ (∀ m, m ≠ x.stream → t.stream m = s.stream m) ∧
      t.alb.base = s.alb.base ∧ t.alb.basePos = s.alb.basePos ∧ t.ntq = s.ntq ∧ t.tbu = s.tbu ∧ t.lki = s.lki

/-- The refusals of placement, in their order (05 R99). PRE_START before the start label. LATE before B, of kind PASSED, and
for a SEALED slot that holds no cell of the stream, of kind SEALED: dropped under DISCARD; under FORWARD it joins the
late-cell queue with FAULTED_SOURCE as the stream is and EXPECTED clear, or, with the queue full, is counted LATE_DROPPED (06
R133, R134). DUPLICATE beside a cell of the same stream in an OPEN or a SEALED slot, counted for its path too (05 R101, 03
R60). POOL_FULL for an OPEN slot with the free list empty: the OPEN slot nearest B seals with cause POOL, with SEAL_PRESSURE
when its mark is armed (05 R101, R105). -/
def Obligations.CellRefused : Prop :=
  ∀ (s : State) (l st b : Label) (x : Cell) (r : StreamRec) (c : StreamCounters),
    s.alb.start = some st → s.alb.base = some b → s.streams.length = 256 → s.alb.slots.length = 128 → x.stream < 256 →
    r = s.stream x.stream → c = r.counters →
    ∃ t : State, t = placeCell l x s ∧ (∀ m, m ≠ x.stream → t.stream m = s.stream m) ∧
      (s.leaps.labelBefore s.fout l st = true →
        t.stream x.stream = { r with counters := { c with preStart := min (c.preStart + 1) 4294967295 } } ∧
        t.alb = s.alb ∧ t.sem = s.sem ∧ t.ntq = s.ntq) ∧
      (∀ kind : LateKind, s.leaps.labelBefore s.fout l st = false →
        (kind = .passed ∧ s.leaps.labelBefore s.fout l b = true ∨
          kind = .sealed ∧ s.leaps.labelBefore s.fout l b = false ∧ ∃ (k : Nat) (e : SealCause) (d : SlotData),
            s.leaps.labelDist s.fout b l = (k : Int) ∧ k ≤ 127 ∧ s.slotAt ((s.alb.basePos + k) % 128) = .sealed e d ∧
            ∀ h ∈ d.present, h.cell.stream ≠ x.stream) →
        t.alb = s.alb ∧ t.ntq = s.ntq ∧
        (s.rqh.config.late = .discard →
          t.stream x.stream = { r with counters := { c with late := min (c.late + 1) 4294967295 } } ∧ t.sem = s.sem) ∧
        (s.rqh.config.late = .forward → s.sem.late.length < 16 →
          t.stream x.stream = { r with counters := { c with late := min (c.late + 1) 4294967295 } } ∧
          t.sem = { s.sem with
            late := s.sem.late ++ [⟨l, s.rqh.config.rateCode, kind,
              { x with faultedSource := decide (r.state = .faulted), expected := false }⟩] }) ∧
        (s.rqh.config.late = .forward → 16 ≤ s.sem.late.length →
          t.stream x.stream = { r with counters := { c with
            late := min (c.late + 1) 4294967295
            lateDropped := min (c.lateDropped + 1) 4294967295 } } ∧
          t.sem = s.sem)) ∧
      (∀ (k pos : Nat) (d : SlotData), s.leaps.labelBefore s.fout l st = false → s.leaps.labelBefore s.fout l b = false →
        s.leaps.labelDist s.fout b l = (k : Int) → k ≤ 127 → pos = (s.alb.basePos + k) % 128 →
        (s.slotAt pos = .opened d ∨ ∃ e, s.slotAt pos = .sealed e d) → (∃ h ∈ d.present, h.cell.stream = x.stream) →
        t.stream x.stream = { r.modPath x.path (fun p => { p with dup := min (p.dup + 1) 4294967295 }) with
          counters := { c with duplicate := min (c.duplicate + 1) 4294967295 } } ∧
        t.alb = s.alb ∧ t.sem = s.sem ∧ t.ntq = s.ntq) ∧
      (∀ (k pos : Nat) (d : SlotData), s.leaps.labelBefore s.fout l st = false → s.leaps.labelBefore s.fout l b = false →
        s.leaps.labelDist s.fout b l = (k : Int) → k ≤ 127 → pos = (s.alb.basePos + k) % 128 →
        s.slotAt pos = .opened d → (∀ h ∈ d.present, h.cell.stream ≠ x.stream) → s.alb.free = [] →
        t.stream x.stream = { r with counters := { c with poolFull := min (c.poolFull + 1) 4294967295 } } ∧
        t.alb.free = [] ∧ t.alb.base = s.alb.base ∧ t.alb.pressureArmed = false ∧
        t.alb.sealedPool = min (s.alb.sealedPool + 1) 4294967295 ∧ t.sem.late = s.sem.late ∧
        t.ntq = (if s.alb.pressureArmed = true then s.ntq.took s.tbu.uptime (.sealPressure x.stream .pool) else s.ntq) ∧
        ∃ (j near : Nat) (y : SlotData), j ≤ k ∧ near = (s.alb.basePos + j) % 128 ∧
          (∀ i, i < j → (s.slotAt ((s.alb.basePos + i) % 128)).isOpen = false) ∧ s.slotAt near = .opened y ∧
          t.slotAt near = .sealed .pool y ∧ ∀ q, q ≠ near → t.slotAt q = s.slotAt q)

/-- A cell beyond B + 127 is refused AHEAD, and every slot at distance at most d − 128 is SEALED afterwards, the OPEN ones
among them with cause HORIZON and as they were; no cell moves (05 R100). When one of them was OPEN the SEAL_PRESSURE notice
is posted if its mark is armed, and the mark is disarmed; when all were SEALED already nothing is posted (05 R105). -/
def Obligations.AheadSealsTheHorizon : Prop :=
  ∀ (s : State) (l st b : Label) (x : Cell) (d : Nat),
    s.alb.slots.length = 128 → s.streams.length = 256 → x.stream < 256 →
    s.alb.start = some st → s.alb.base = some b →
    s.leaps.labelBefore s.fout l st = false → s.leaps.labelBefore s.fout l b = false →
    s.leaps.labelDist s.fout b l = (d : Int) → 127 < d →
    ∃ t : State, t = placeCell l x s ∧
      t.stream x.stream = { s.stream x.stream with counters := { (s.stream x.stream).counters with
        ahead := min ((s.stream x.stream).counters.ahead + 1) 4294967295 } } ∧
      (∀ k, k ≤ d - 128 → k < 128 →
        (∀ y, s.slotAt ((s.alb.basePos + k) % 128) = .opened y →
          t.slotAt ((s.alb.basePos + k) % 128) = .sealed .horizon y) ∧
        (∀ c y, s.slotAt ((s.alb.basePos + k) % 128) = .sealed c y →
          t.slotAt ((s.alb.basePos + k) % 128) = .sealed c y) ∧
        (s.slotAt ((s.alb.basePos + k) % 128) = .vacant →
          ∃ (c : SealCause) (y : SlotData), t.slotAt ((s.alb.basePos + k) % 128) = .sealed c y ∧ y.expected = [] ∧ y.present = [] ∧
            y.label = s.leaps.labelAdd s.fout k b ∧ y.openCause = .frame ∧ (c = .horizon ∨ c = .deadline))) ∧
      (∀ k, d - 128 < k → k < 128 → t.slotAt ((s.alb.basePos + k) % 128) = s.slotAt ((s.alb.basePos + k) % 128)) ∧
      ((∃ k y, k ≤ d - 128 ∧ k < 128 ∧ s.slotAt ((s.alb.basePos + k) % 128) = .opened y) →
        t.alb.pressureArmed = false ∧
        t.ntq = (if s.alb.pressureArmed = true then s.ntq.took s.tbu.uptime (.sealPressure x.stream .horizon)
          else s.ntq)) ∧
      ((∀ k, k ≤ d - 128 → k < 128 → (s.slotAt ((s.alb.basePos + k) % 128)).isSealed = true) →
        t.alb.pressureArmed = s.alb.pressureArmed ∧ t.ntq = s.ntq) ∧
      t.alb.free = s.alb.free ∧ t.alb.base = s.alb.base ∧ (∀ m, m ≠ x.stream → t.stream m = s.stream m)

/-! ### Requests -/

/-- A length note and a REQUEST with an empty payload are answered BAD_LENGTH with kind 0x00; an unknown kind BAD_KIND with
the kind as received; a known kind of another length BAD_LENGTH. Nothing else changes (07 R149, 08 R162 to R164, 10 R205).
No request is taken while no ordinary place of the reply queue is free, but for SOFT_RESET (07 R151). -/
def Obligations.UnreadableRequestsRefused : Prop :=
  ∀ (s : State) (tag k : Byte) (p : List Byte),
    (s.placeFree = true → s.lki.inbound.head? = some (.lengthNote tag) →
      exec .lengthNoteReply s = .next (s.replied tag 0x00 .badLength 0 [])) ∧
    (s.placeFree = true → s.lki.inbound.head? = some (.request tag []) →
      exec .emptyPayloadRequest s = .next (s.replied tag 0x00 .badLength 0 [])) ∧
    (s.placeFree = true → s.lki.inbound.head? = some (.request tag (k :: p)) → k = 0 ∨ 0x10 ≤ k.toNat →
      exec .badKind s = .next (s.replied tag k .badKind 0 [])) ∧
    (∀ (c : Instr) (n : Nat), s.Asked tag k p → (k = 0x0D → s.keptFree = true) →
      (k, c, n) ∈ ([(0x01, .identify, 0), (0x02, .setIdentity, 2), (0x03, .configure, 15), (0x04, .timePolicy, 4),
        (0x05, .timeLabel, 4), (0x06, .leapSchedule, 5), (0x07, .timeQuery, 0), (0x09, .streamEnable, 2),
        (0x0A, .streamDisable, 2), (0x0B, .streamQuery, 3), (0x0C, .alignStart, 0), (0x0D, .alignStop, 0),
        (0x0E, .bufferQuery, 1), (0x0F, .softReset, 0)] : List (Byte × Instr × Nat)) →
      p.length ≠ n → exec c s = .next (s.replied tag k .badLength 0 [])) ∧
    (s.Asked tag 0x08 p →
      (p.length < 5 ∨ field p 4 1 = 0 ∧ p.length ≠ 10 ∨ 5 ≤ p.length ∧ field p 4 1 = 1 ∧ p.length ≠ 17 →
        exec .streamDefine s = .next (s.replied tag 0x08 .badLength 0 [])) ∧
      (5 ≤ p.length → 2 ≤ field p 4 1 → exec .streamDefine s = .next (s.replied tag 0x08 .badValue 3 []))) ∧
    (∀ c : Instr, s.placeFree = false →
      c ∈ [Instr.lengthNoteReply, .emptyPayloadRequest, .badKind, .identify, .setIdentity, .configure, .timePolicy,
        .timeLabel, .leapSchedule, .timeQuery, .streamDefine, .streamEnable, .streamDisable, .streamQuery, .alignStart,
        .alignStop, .bufferQuery] →
      exec c s = .next s)

/-- IDENTIFY is answered OK with the part's codes, its identity, its marks, its straps and its capacities, in every state
of every block, and changes no state (08 R165). -/
def Obligations.IdentifyAnswered : Prop :=
  ∀ (s : State) (tag : Byte), s.Asked tag 0x01 [] →
    exec .identify s = .next (s.replied tag 0x01 .ok 0
      ([0x0E, 0x71, 0x02, 0xCC, 0x01] ++ be 2 s.rqh.identity
        ++ [BitVec.ofNat 8 (s.rqh.idWritten.toNat + 2 * s.tbu.policy.written.toNat),
          BitVec.ofNat 8 (s.straps.nomf.toNat + 2 * s.straps.ppspol.toNat + 16 * s.straps.outr),
          0x01, 0x00, 0x80, 0x20, 0x00, 0x20, 0x01, 0xE0, 0x20, 0x10]))

/-- SET_IDENTITY refuses 0 and a second write, and otherwise writes the identity once (08 R166). -/
def Obligations.IdentitySet : Prop :=
  ∀ (s : State) (tag : Byte) (v : Nat), v < 65536 → s.Asked tag 0x02 (be 2 v) →
    exec .setIdentity s = .next (
      if v = 0 then s.replied tag 0x02 .badValue 1 []
      else if s.rqh.idWritten = true then s.replied tag 0x02 .alreadySet 0 []
      else { s with rqh := { s.rqh with identity := v, idWritten := true } }.replied tag 0x02 .ok 0 (be 2 v))

/-- CONFIGURE is refused outside STANDBY and for a code out of its range; otherwise every numeric value is clamped, W_max
raised to W_min, all nine written, and the reply carries them with a mark for each one changed (08 R167, R168). A changed
output rate makes the newest ticked label absent, and the tick waits for the next change of local time (01 R18; log 18). -/
def Obligations.ConfigureClamps : Prop :=
  ∀ (s : State) (tag : Byte) (rate mode wf wn wx mg ts tf late : Nat) (g : Configuration),
    rate < 256 → mode < 256 → late < 256 → wf < 65536 → wn < 65536 → wx < 65536 → mg < 65536 → ts < 65536 →
    tf < 65536 →
    s.Asked tag 0x03 (be 1 rate ++ be 1 mode ++ be 2 wf ++ be 2 wn ++ be 2 wx ++ be 2 mg ++ be 2 ts ++ be 2 tf
      ++ be 1 late) →
    (s.alb.runState = .running → exec .configure s = .next (s.replied tag 0x03 .wrongState 0 [])) ∧
    (s.alb.runState = .draining → exec .configure s = .next (s.replied tag 0x03 .busy 0 [])) ∧
    (s.alb.runState = .standby → 12 < rate → exec .configure s = .next (s.replied tag 0x03 .badValue 1 [])) ∧
    (s.alb.runState = .standby → rate ≤ 12 → 1 < mode →
      exec .configure s = .next (s.replied tag 0x03 .badValue 2 [])) ∧
    (s.alb.runState = .standby → rate ≤ 12 → mode ≤ 1 → 1 < late →
      exec .configure s = .next (s.replied tag 0x03 .badValue 9 [])) ∧
    (s.alb.runState = .standby → rate ≤ 12 → mode ≤ 1 → late ≤ 1 →
      g = ⟨rate, if mode = 0 then .fixed else .adaptive, max 1 (min 2000 wf), max 1 (min 2000 wn),
        max (max 1 (min 2000 wn)) (max 1 (min 2000 wx)), min 500 mg, min 1000 ts, min 5000 tf,
        if late = 0 then .discard else .forward⟩ →
      exec .configure s = .next ({ s with
        rqh := { s.rqh with config := g }
        tbu := if rate = s.rqh.config.rateCode then s.tbu
          else { s.tbu with newestTick := none, tickWaits := true } }.replied tag 0x03 .ok 0
        (be 1 rate ++ be 1 mode ++ be 2 g.wFixed ++ be 2 g.wMin ++ be 2 g.wMax ++ be 2 g.margin ++ be 2 g.tSnap
          ++ be 2 g.tFuture ++ be 1 late
          ++ [BitVec.ofNat 8 ((if g.wFixed = wf then 0 else 1) + (if g.wMin = wn then 0 else 2)
            + (if g.wMax = wx then 0 else 4) + (if g.margin = mg then 0 else 8) + (if g.tSnap = ts then 0 else 16)
            + (if g.tFuture = tf then 0 else 32))])))

/-- TIME_POLICY is taken once after pin reset, with w and the miss limit clamped and marked, in any time state and any run
state (01 R20, 08 R170). That the new holdover limit counts in every grade read after it, before the next rollover too, is
log 44 (DESIGN CHOICE, unsafe). -/
def Obligations.TimePolicyTaken : Prop :=
  ∀ (s : State) (tag : Byte) (code w miss : Nat), code < 256 → w < 65536 → miss < 256 →
    s.Asked tag 0x04 (be 1 code ++ be 2 w ++ be 1 miss) →
    (s.tbu.policy.written = true → exec .timePolicy s = .next (s.replied tag 0x04 .alreadySet 0 [])) ∧
    (s.tbu.policy.written = false → 3 < code → exec .timePolicy s = .next (s.replied tag 0x04 .badValue 1 [])) ∧
    (s.tbu.policy.written = false → code ≤ 3 →
      exec .timePolicy s = .next
        ({ s with tbu := { s.tbu with policy := ⟨code, max 1 (min 5000 w), max 1 (min 8 miss), true⟩ } }.replied tag 0x04
          .ok 0 (be 1 code ++ be 2 (max 1 (min 5000 w)) ++ be 1 (max 1 (min 8 miss))
            ++ [BitVec.ofNat 8 ((if max 1 (min 5000 w) = w then 0 else 1) + (if max 1 (min 8 miss) = miss then 0 else 2))]
            ++ be 2 ([64, 256, 1024, 4096].getD code 0))))

/-- TIME_LABEL: a second that a pending DELETE removes is refused; in UNSET it enters ACQUIRING, in ACQUIRING it replaces
the pending label; with time set, the successor's label is confirmed, and any other forces ACQUIRING in STANDBY and is
refused in a run (01 R14, R18, R19, 08 R171; what counts as earlier, log 21). -/
def Obligations.TimeLabelTaken : Prop :=
  ∀ (s : State) (tag : Byte) (x : SecondLabel), s.Asked tag 0x05 (be 4 x.toNat) →
    (s.leaps.pending = some ⟨x, .del⟩ → exec .timeLabel s = .next (s.replied tag 0x05 .badValue 1 [])) ∧
    (s.leaps.pending = none → s.tbu.tstate = .unset →
      exec .timeLabel s = .next ({ s with
        tbu := { s.tbu with tstate := .acquiring, pendingLabel := some ⟨x, false⟩, newestTick := none }
        ntq := s.ntq.took s.tbu.uptime (.timeState .unset .acquiring x) }.replied tag 0x05 .ok 0
          ([0x01, 0x01] ++ be 4 x.toNat ++ [0x00]))) ∧
    (s.leaps.pending = none → s.tbu.tstate = .acquiring →
      exec .timeLabel s = .next ({ s with tbu := { s.tbu with pendingLabel := some ⟨x, false⟩ } }.replied tag 0x05 .ok 0
          ([0x01, 0x01] ++ be 4 x.toNat ++ [0x00]))) ∧
    (s.leaps.pending ≠ some ⟨x, .del⟩ → s.tbu.timeSet = true → x = (s.leaps.succ s.tbu.second).label →
      exec .timeLabel s = .next (s.replied tag 0x05 .ok 0
        (be 1 s.tbu.tstate.code ++ [0x02] ++ be 4 s.tbu.second.label.toNat ++ be 1 s.tbu.second.inserted.toNat))) ∧
    (s.leaps.pending = none → s.tbu.timeSet = true → x ≠ (s.leaps.succ s.tbu.second).label →
      s.alb.runState = .standby →
      exec .timeLabel s = .next ({ s with
        tbu := { s.tbu with
          tstate := .acquiring
          pendingLabel := some ⟨x, false⟩
          newestTick := none
          prevEdge := false
          c := 0
          missCount := 0
          stepCount := 0
          holdoverAge := 0 }
        ntq := s.ntq.took s.tbu.uptime (.timeState s.tbu.tstate .acquiring x) }.replied tag 0x05 .ok 0
          ([0x01, 0x01] ++ be 4 x.toNat ++ [0x00]))) ∧
    (s.leaps.pending ≠ some ⟨x, .del⟩ → s.tbu.timeSet = true → x ≠ (s.leaps.succ s.tbu.second).label →
      s.alb.runState ≠ .standby → exec .timeLabel s = .next (s.replied tag 0x05 .wrongState 0 [])) ∧
    (∀ e, s.leaps.pending = some e → e ≠ ⟨x, .del⟩ → s.tbu.tstate = .acquiring →
      ∃ t : State, exec .timeLabel s = .next t ∧ t.tbu.pendingLabel = some ⟨x, false⟩ ∧ t.leaps.last = s.leaps.last ∧
        t.tbu.flags = s.tbu.flags ∧ t.ntq = s.ntq ∧
        t.leaps.pending = (if s.leaps.later ⟨e.second, false⟩ ⟨x, false⟩ = true then none else some e))

/-- LEAP_SCHEDULE: a direction out of its codes is BAD_VALUE, UNSET is WRONG_STATE. The four tests refuse with TOO_LATE: a
new S less than 2 from the reference second; a pending event less than 2 from it; in a run, a new S or a pending event not
later than the second of label B + 127; in a run, for a direction, a last applied event not earlier than the second of label
B. When none fails, a direction becomes the pending event and the last applied becomes absent; NONE makes the pending event
absent and leaves the last applied (01 R15, 08 R172, 10 R199, R206). That the distances are literal and the seconds of labels
are compared clear is log 10, and the distance to the second of a pending DELETE is log 37 (both DESIGN CHOICE, unsafe). -/
def Obligations.LeapScheduled : Prop :=
  ∀ (s : State) (tag : Byte) (x : SecondLabel) (code : Nat) (ref : Second), code < 256 →
    s.Asked tag 0x06 (be 4 x.toNat ++ be 1 code) →
    (s.tbu.timeSet = true ∧ ref = s.tbu.second ∨ s.tbu.tstate = .acquiring ∧ s.tbu.pendingLabel = some ref ∨
      s.tbu.tstate = .unset) →
    (2 < code → exec .leapSchedule s = .next (s.replied tag 0x06 .badValue 2 [])) ∧
    (code ≤ 2 → s.tbu.tstate = .unset → exec .leapSchedule s = .next (s.replied tag 0x06 .wrongState 0 [])) ∧
    (s.tbu.tstate ≠ .unset → code = 1 ∨ code = 2 → s.leaps.dist ref ⟨x, false⟩ < 2 →
      exec .leapSchedule s = .next (s.replied tag 0x06 .tooLate 0 [])) ∧
    (s.tbu.tstate ≠ .unset → code = 1 ∨ code = 2 → 2 ≤ s.leaps.dist ref ⟨x, false⟩ →
      (∀ e, s.leaps.pending = some e → 2 ≤ s.leaps.dist ref ⟨e.second, false⟩) →
      (s.alb.runState = .standby ∨ ∃ b w, s.alb.base = some b ∧ w = (s.leaps.labelAdd s.fout 127 b).second.label ∧
        s.leaps.later ⟨w, false⟩ ⟨x, false⟩ = true ∧
        (∀ e, s.leaps.pending = some e → s.leaps.later ⟨w, false⟩ ⟨e.second, false⟩ = true) ∧
        (∀ e, s.leaps.last = some e → s.leaps.later ⟨e.second, false⟩ ⟨b.second.label, false⟩ = true)) →
      exec .leapSchedule s = .next
        ({ s with tbu := { s.tbu with leaps := ⟨some ⟨x, if code = 1 then .ins else .del⟩, none⟩ } }.replied tag 0x06
          .ok 0 (be 1 code ++ be 4 x.toNat ++ [0, 0, 0, 0, 0]))) ∧
    (∀ e, s.tbu.tstate ≠ .unset → code ≤ 2 → s.leaps.pending = some e → s.leaps.dist ref ⟨e.second, false⟩ < 2 →
      exec .leapSchedule s = .next (s.replied tag 0x06 .tooLate 0 [])) ∧
    (s.tbu.tstate ≠ .unset → code = 0 →
      (∀ e, s.leaps.pending = some e → 2 ≤ s.leaps.dist ref ⟨e.second, false⟩) →
      (s.alb.runState = .standby ∨ ∃ b w, s.alb.base = some b ∧ w = (s.leaps.labelAdd s.fout 127 b).second.label ∧
        ∀ e, s.leaps.pending = some e → s.leaps.later ⟨w, false⟩ ⟨e.second, false⟩ = true) →
      exec .leapSchedule s = .next
        ({ s with tbu := { s.tbu with leaps := ⟨none, s.leaps.last⟩ } }.replied tag 0x06 .ok 0
          (([0, 0, 0, 0, 0] : List Byte) ++ (match s.leaps.last with
            | none => [0, 0, 0, 0, 0]
            | some e => (if e.dir = LeapDir.ins then 0x01 else 0x02) :: be 4 e.second.toNat)))) ∧
    (∀ b w, s.tbu.tstate ≠ .unset → s.alb.runState ≠ .standby → s.alb.base = some b →
      w = (s.leaps.labelAdd s.fout 127 b).second.label →
      (code = 1 ∨ code = 2 → s.leaps.later ⟨w, false⟩ ⟨x, false⟩ = false →
        exec .leapSchedule s = .next (s.replied tag 0x06 .tooLate 0 [])) ∧
      (∀ e, code ≤ 2 → s.leaps.pending = some e → s.leaps.later ⟨w, false⟩ ⟨e.second, false⟩ = false →
        exec .leapSchedule s = .next (s.replied tag 0x06 .tooLate 0 [])) ∧
      (∀ e, code = 1 ∨ code = 2 → s.leaps.last = some e →
        s.leaps.later ⟨e.second, false⟩ ⟨b.second.label, false⟩ = false →
        exec .leapSchedule s = .next (s.replied tag 0x06 .tooLate 0 [])))

/-- TIME_QUERY reports the clock at its byte places (10 R206): the second of local time with its inserted flag, or the
pending label in ACQUIRING, and the two leap records, each byte of an absent one 0 (10 R199); it clears the five flags in the
same act (01 R21, 08 R173). The holdover limit that its grade is read by is log 44 (DESIGN CHOICE, unsafe). -/
def Obligations.TimeQueryReads : Prop :=
  ∀ (s : State) (tag : Byte), s.tbu.Sound → s.tbu.holdoverAge ≤ 4294967295 → s.Asked tag 0x07 [] →
    ∃ body : List Byte, exec .timeQuery s = .next ({ s with
        tbu := { s.tbu with flags := ⟨false, false, false, false, false⟩ } }.replied tag 0x07 .ok 0 body) ∧
      body.length = 40 ∧
      (∀ x : Second, s.tbu.timeSet = true ∧ x = s.tbu.second ∨
          s.tbu.tstate = .acquiring ∧ s.tbu.pendingLabel = some x ∨ s.tbu.tstate = .unset ∧ x = ⟨0, false⟩ →
        Laid body [(1, 4, x.label.toNat), (5, 1, x.inserted.toNat)]) ∧
      Laid body [(0, 1, match s.tbu.tstate with | .unset => 0 | .acquiring => 1 | .locked => 2 | .holdover => 3 | .free => 4),
        (6, 4, if s.tbu.timeSet = true then s.tbu.c * 1000000000 / s.tbu.nSec else 0), (10, 4, s.tbu.nSec),
        (14, 4, (BitVec.ofInt 32 s.tbu.lastError).toNat), (18, 4, s.tbu.holdoverAge),
        (22, 1, match s.tbu.grade with | .none => 0 | .a => 1 | .b => 2 | .c => 3 | .d => 4),
        (33, 1, s.tbu.flags.ppsRejected.toNat + 2 * s.tbu.flags.ppsMissed.toNat + 4 * s.tbu.flags.stepped.toNat
          + 8 * s.tbu.flags.leapApplied.toNat + 16 * s.tbu.flags.lengthClamped.toNat), (34, 6, s.tbu.uptime.toNat)] ∧
      (∀ (off : Nat) (e : Option LeapEvent), off = 23 ∧ e = s.leaps.pending ∨ off = 28 ∧ e = s.leaps.last →
        (e = none → field body off 5 = 0) ∧
        (∀ y, e = some y → Laid body [(off, 1, if y.dir = .ins then 1 else 2), (off + 1, 4, y.second.toNat)]))

/-- STREAM_DEFINE: its tests come in the order of 03 R44, the first to fail decides and changes nothing; otherwise the
record starts afresh with the definition, its layout PINNED or absent, its thresholds clamped (08 R174, 10 R204 to R206).
That the fill policy, detail 10, is tested ahead of the layout fields, details 4 to 8, is log 12 (DEDUCED, unsafe). The last
byte of the layout record, which 10 R199 does not name, is the model's own reading (log 32, DEDUCED, unsafe). -/
def Obligations.StreamDefined : Prop :=
  ∀ (s : State) (tag : Byte) (n src fill hold e q : Nat) (rot : Bool) (l : Option Layout) (p : List Byte),
    n < 65536 → src < 65536 → fill < 256 → hold < 256 → e < 256 → q < 256 →
    (∀ x, l = some x →
      x.rateCode < 256 ∧ x.timeBase < 16777216 ∧ x.phasors < 256 ∧ x.analogs < 256 ∧ x.digitals < 256) →
    p = be 2 n ++ be 2 src
      ++ (match l with
        | none => [0x00]
        | some x => [0x01] ++ be 1 x.rateCode ++ be 3 x.timeBase ++ be 1 x.phasors ++ be 1 x.analogs ++ be 1 x.digitals)
      ++ be 1 rot.toNat ++ be 1 fill ++ be 1 hold ++ be 1 e ++ be 1 q →
    s.Asked tag 0x08 p →
    (256 ≤ n → exec .streamDefine s = .next (s.replied tag 0x08 .badValue 1 [])) ∧
    (n < 256 → src = 0 ∨ src = 65535 → exec .streamDefine s = .next (s.replied tag 0x08 .badValue 2 [])) ∧
    (n < 256 → 1 ≤ src → src ≤ 65534 → 1 < fill → exec .streamDefine s = .next (s.replied tag 0x08 .badValue 10 [])) ∧
    (∀ x, n < 256 → 1 ≤ src → src ≤ 65534 → fill ≤ 1 → l = some x →
      (12 < x.rateCode → exec .streamDefine s = .next (s.replied tag 0x08 .badValue 4 [])) ∧
      (x.rateCode ≤ 12 → x.timeBase = 0 → exec .streamDefine s = .next (s.replied tag 0x08 .badValue 5 [])) ∧
      (x.rateCode ≤ 12 → 1 ≤ x.timeBase → 12 < x.phasors →
        exec .streamDefine s = .next (s.replied tag 0x08 .badValue 6 [])) ∧
      (x.rateCode ≤ 12 → 1 ≤ x.timeBase → x.phasors ≤ 12 → 4 < x.analogs →
        exec .streamDefine s = .next (s.replied tag 0x08 .badValue 7 [])) ∧
      (x.rateCode ≤ 12 → 1 ≤ x.timeBase → x.phasors ≤ 12 → x.analogs ≤ 4 → 2 < x.digitals →
        exec .streamDefine s = .next (s.replied tag 0x08 .badValue 8 []))) ∧
    (n < 256 → 1 ≤ src → src ≤ 65534 → fill ≤ 1 →
      (∀ x, l = some x →
        x.rateCode ≤ 12 ∧ 1 ≤ x.timeBase ∧ x.phasors ≤ 12 ∧ x.analogs ≤ 4 ∧ x.digitals ≤ 2) →
      ((s.stream n).state ≠ .disabled → exec .streamDefine s = .next (s.replied tag 0x08 .wrongState 0 [])) ∧
      ((s.stream n).state = .disabled → (∃ m, (src, m) ∈ s.sourceMap) →
        exec .streamDefine s = .next (s.replied tag 0x08 .duplicateSource 0 [])) ∧
      ((s.stream n).state = .disabled → (∀ m, (src, m) ∉ s.sourceMap) →
        exec .streamDefine s = .next (({ s with
          streams := s.streams.modify n fun _ => { StreamRec.reset with
            source := src
            layout := l.map fun x => ⟨x, .pinned⟩
            rotate := rot
            fill := if fill = 1 then .hold else .none
            holdLimit := min 15 hold
            errThreshold := max 1 (min 15 e)
            silenceCount := max 1 q } } : State).replied tag 0x08 .ok 0
          (be 2 n ++ be 1 (min 15 hold) ++ be 1 (max 1 (min 15 e)) ++ be 1 (max 1 q)
            ++ [BitVec.ofNat 8 ((if min 15 hold = hold then 0 else 1) + (if max 1 (min 15 e) = e then 0 else 2)
              + (if max 1 q = q then 0 else 4))]
            ++ (match l with
              | none => [0, 0, 0, 0, 0, 0, 0, 0, 0]
              | some x => [0x01] ++ be 1 x.rateCode ++ be 3 x.timeBase ++ be 1 x.phasors ++ be 1 x.analogs
                ++ be 1 x.digitals ++ [0x00])))))

/-- STREAM_ENABLE binds the source ID and enters LEARNING without a layout, WAITING with one; it is refused for a stream
number of 256 or more, a stream without a definition or not DISABLED, and a source ID already bound. STREAM_DISABLE unbinds
it, clears its running state, keeps its counters and a PINNED layout, and leaves no trace of the stream in an OPEN slot; it
is refused for a stream number of 256 or more and a stream already DISABLED (03 R45, R46, 05 R109, 08 R175). -/
def Obligations.StreamEnabledAndDisabled : Prop :=
  ∀ (s : State) (tag : Byte) (n : Nat), s.streams.length = 256 → s.alb.slots.length = 128 → n < 65536 →
    (s.Asked tag 0x09 (be 2 n) → 256 ≤ n → exec .streamEnable s = .next (s.replied tag 0x09 .badValue 1 [])) ∧
    (s.Asked tag 0x0A (be 2 n) → 256 ≤ n → exec .streamDisable s = .next (s.replied tag 0x0A .badValue 1 [])) ∧
    (s.Asked tag 0x09 (be 2 n) → n < 256 → (s.stream n).source ≠ 0 → (s.stream n).state = .disabled →
      (∀ m, ((s.stream n).source, m) ∉ s.sourceMap) →
      ∃ x : StreamState, (x = if (s.stream n).layout = none then StreamState.learning else .waiting) ∧
        exec .streamEnable s = .next ({ s with
          sourceMap := s.sourceMap ++ [((s.stream n).source, n)]
          streams := s.streams.modify n fun r => { r with state := x }
          ntq := s.ntq.took s.tbu.uptime (.streamState n .disabled x .request) }.replied tag 0x09 .ok 0
            (be 2 n ++ be 1 x.code))) ∧
    (s.Asked tag 0x09 (be 2 n) → n < 256 → (s.stream n).source ≠ 0 → (s.stream n).state = .disabled →
      (∃ m, ((s.stream n).source, m) ∈ s.sourceMap) →
      exec .streamEnable s = .next (s.replied tag 0x09 .duplicateSource 0 [])) ∧
    (s.Asked tag 0x09 (be 2 n) → n < 256 → (s.stream n).source = 0 ∨ (s.stream n).state ≠ .disabled →
      exec .streamEnable s = .next (s.replied tag 0x09 .wrongState 0 [])) ∧
    (s.Asked tag 0x0A (be 2 n) → n < 256 → (s.stream n).state = .disabled →
      exec .streamDisable s = .next (s.replied tag 0x0A .wrongState 0 [])) ∧
    (s.Asked tag 0x0A (be 2 n) → n < 256 → (s.stream n).state ≠ .disabled →
      ∃ t : State, exec .streamDisable s = .next t ∧
        t.lki = (s.replied tag 0x0A .ok 0 (be 2 n ++ be 1 (s.stream n).state.code)).lki ∧
        t.sourceMap = s.sourceMap.filter (fun y => y.2 ≠ n) ∧
        (∃ y : Option StreamLayout, (∀ l, y = some l ↔ (s.stream n).layout = some l ∧ l.origin = .pinned) ∧
          t.stream n = { s.stream n with
            state := .disabled
            layout := y
            hold := none
            newest := none
            lhat := none
            seedMark := true
            errCount := 0
            goodCount := 0
            pathA := { (s.stream n).pathA with up := false, last := none }
            pathB := { (s.stream n).pathB with up := false, last := none } }) ∧
        (∀ m, m ≠ n → t.stream m = s.stream m) ∧
        t.ntq = s.ntq.took s.tbu.uptime (.streamState n (s.stream n).state .disabled .request) ∧
        (∀ pos d, t.slotAt pos = .opened d → n ∉ d.expected ∧ ∀ h ∈ d.present, h.cell.stream ≠ n) ∧
        (∀ pos c d, s.slotAt pos = .sealed c d → t.slotAt pos = .sealed c d) ∧
        t.tbu = s.tbu ∧ t.rqh = s.rqh ∧ t.fck = s.fck)

/-- STREAM_QUERY reports the whole record at its byte places (10 R206): each triple is an offset, a width and the value
there; what is absent reads 0. It arms the notice mark, and with the clearing option reads and clears as one act; a bad
option arms nothing (03 R56, R69, 08 R176). The last byte of the layout record, offset 13, is log 32 (DEDUCED). -/
def Obligations.StreamQueryReads : Prop :=
  ∀ (s : State) (tag : Byte) (n o : Nat), n < 65536 → o < 256 → s.Asked tag 0x0B (be 2 n ++ be 1 o) →
    (256 ≤ n → exec .streamQuery s = .next (s.replied tag 0x0B .badValue 1 [])) ∧
    (n < 256 → 1 < o → exec .streamQuery s = .next (s.replied tag 0x0B .badValue 2 [])) ∧
    (∀ (r : StreamRec) (counts : List Nat), n < 256 → o ≤ 1 → s.RecordsSound → r = s.stream n → r.source < 65536 →
      (∀ l, r.layout = some l → l.shape.rateCode ≤ 12 ∧ l.shape.timeBase < 16777216 ∧ l.shape.phasors ≤ 12 ∧
        l.shape.analogs ≤ 4 ∧ l.shape.digitals ≤ 2) →
      (∀ m, r.newest = some m → m.index < 256 ∧ m.grid < 4294967296) →
      counts = [r.counters.good, r.counters.noLayout, r.counters.malformed, r.counters.timeFormat, r.counters.badLeap,
        r.counters.offGrid, r.counters.regression, r.counters.future, r.counters.decimated, r.counters.standbyDiscard,
        r.counters.placed, r.counters.duplicate, r.counters.ahead, r.counters.poolFull, r.counters.preStart,
        r.counters.late, r.counters.lateDropped, r.counters.present, r.counters.held, r.counters.absent,
        r.counters.nominalMismatch, r.counters.layoutConfirm, r.counters.layoutMismatch, r.counters.layoutLearned,
        r.counters.faultEntries, r.counters.silentEntries] →
      (∀ v ∈ r.pathA.lead :: r.pathA.dup :: r.pathB.lead :: r.pathB.dup :: counts, v ≤ 4294967295) →
      ∃ body : List Byte, exec .streamQuery s = .next ({ s with
          streams := s.streams.modify n fun r =>
            if o = 1 then { r with
              mismatchArmed := true
              counters := .zero
              seqFlag := false
              latencyMax := 0
              pathA := { r.pathA with lead := 0, dup := 0 }
              pathB := { r.pathB with lead := 0, dup := 0 } }
            else { r with mismatchArmed := true } }.replied tag 0x0B .ok 0 body) ∧
        body.length = 197 ∧
        (∀ e ∈ ([(0, 2, n), (2, 2, r.source), (4, 1, r.state.code), (14, 1, r.rotate.toNat),
            (15, 1, if r.fill = .hold then 1 else 0), (16, 1, r.holdLimit), (17, 1, r.errThreshold), (18, 1, r.silenceCount),
            (19, 1, r.errCount), (20, 1, r.goodCount), (21, 1, r.seqFlag.toNat), (81, 1, r.lhat.isSome.toNat),
            (82, 4, r.lhat.getD 0), (86, 1, r.seedMark.toNat), (87, 4, r.latencyMax), (91, 1, r.hold.isSome.toNat),
            (92, 1, (r.hold.map (·.age)).getD 0)] : List (Nat × Nat × Nat)), field body e.1 e.2.1 = e.2.2) ∧
        (r.layout = none → field body 5 9 = 0 ∧ field body 33 4 = 0) ∧
        (∀ l, r.layout = some l →
          ∀ e ∈ ([(5, 1, if l.origin = .pinned then 1 else 2), (6, 1, l.shape.rateCode), (7, 3, l.shape.timeBase),
              (10, 1, l.shape.phasors), (11, 1, l.shape.analogs), (12, 1, l.shape.digitals), (13, 1, 0),
              (33, 4, r.silenceCount * 1000000 / rateOf l.shape.rateCode)] : List (Nat × Nat × Nat)),
            field body e.1 e.2.1 = e.2.2) ∧
        (r.newest = none → field body 22 11 = 0) ∧
        (∀ m, r.newest = some m →
          ∀ e ∈ ([(22, 1, 1), (23, 4, m.second.label.toNat), (27, 1, m.second.inserted.toNat), (28, 1, m.index),
              (29, 4, m.grid)] : List (Nat × Nat × Nat)), field body e.1 e.2.1 = e.2.2) ∧
        (∀ (off : Nat) (q : PathRec), off = 37 ∧ q = r.pathA ∨ off = 59 ∧ q = r.pathB →
          ∀ e ∈ ([(0, 1, q.up.toNat), (1, 1, q.last.isSome.toNat), (2, 6, (q.last.getD 0).toNat),
              (8, 6, match q.up, q.last with | true, some u => (s.tbu.uptime - u).toNat | _, _ => 0), (14, 4, q.lead),
              (18, 4, q.dup)] : List (Nat × Nat × Nat)), field body (off + e.1) e.2.1 = e.2.2) ∧
        (∀ i v, counts[i]? = some v → field body (93 + 4 * i) 4 = v))

/-- ALIGN_START: in STANDBY with time set the run begins at the label after the latest one at or before local time, and the
reply names it; otherwise WRONG_STATE, or BUSY in DRAINING (05 R90, 08 R177). -/
def Obligations.AlignStarts : Prop :=
  ∀ (s : State) (tag : Byte), s.Asked tag 0x0C [] →
    (s.alb.runState = .draining → exec .alignStart s = .next (s.replied tag 0x0C .busy 0 [])) ∧
    (s.alb.runState = .running ∨ s.alb.runState = .standby ∧ s.tbu.timeSet = false →
      exec .alignStart s = .next (s.replied tag 0x0C .wrongState 0 [])) ∧
    (∀ f b, s.alb.runState = .standby → s.tbu.timeSet = true →
      f = ⟨s.tbu.second, latestIndex s.fout (s.tbu.c * 1000000000 / s.tbu.nSec)⟩ →
      (b = if f.index + 1 < s.fout then ⟨s.tbu.second, f.index + 1⟩ else ⟨s.leaps.succ s.tbu.second, 0⟩) →
      exec .alignStart s = .next ({ s with
        alb := { s.alb with
          runState := .running
          start := some b
          base := some b
          basePos := 0
          frontier := some f } }.replied tag 0x0C .ok 0
        (be 4 b.second.label.toNat ++ be 1 b.second.inserted.toNat ++ be 1 b.index ++ be 1 s.rqh.config.rateCode
          ++ be 1 s.tbu.grade.code)))

/-- ALIGN_STOP: OK at once in STANDBY; BUSY in DRAINING; in RUNNING every OPEN slot seals DRAIN, B skips the FREE labels,
counted DRAIN_SKIPPED, to the first slot that is SEALED, which is offered to an IDLE Set Emitter, and the reply is deferred,
unless nothing is left to emit, when it is placed at once in the kept place (05 R91, R92, R114, 06 R137). An OK reply carries
STANDBY, the start label, B and the frontier (08 R178, 10 R199, R206). -/
def Obligations.AlignStops : Prop :=
  ∀ (s : State) (tag : Byte), s.Asked tag 0x0D [] → s.keptFree = true → s.alb.RunSound →
    (s.alb.runState = .standby →
      ∃ body : List Byte, StopReport body s.alb.start s.alb.base s.alb.frontier ∧
        exec .alignStop s = .next (s.replied tag 0x0D .ok 0 body)) ∧
    (s.alb.runState = .draining → exec .alignStop s = .next (s.replied tag 0x0D .busy 0 [])) ∧
    (s.alb.runState = .running →
      ∃ t : State, exec .alignStop s = .next t ∧ t.lki.inbound = s.lki.inbound.tail ∧
        (∀ pos, t.slotAt pos = match s.slotAt pos with
          | .opened d => .sealed .drain d
          | x => x) ∧
        t.alb.free = s.alb.free ∧ t.alb.start = s.alb.start ∧ t.alb.frontier = s.alb.frontier ∧
        t.streams = s.streams ∧ t.tbu = s.tbu ∧ t.ntq = s.ntq ∧
        (∀ (b : Label) (j : Nat) (c : SealCause) (y : SlotData), s.alb.base = some b → j < 128 →
          s.alb.drainSkipped ≤ 4294967295 →
          s.slotAt ((s.alb.basePos + j) % 128) = .opened y ∨ s.slotAt ((s.alb.basePos + j) % 128) = .sealed c y →
          (∀ i, i < j → s.slotAt ((s.alb.basePos + i) % 128) = .vacant) →
          t.alb.runState = .draining ∧ t.rqh = { s.rqh with deferred := some tag } ∧ t.lki.replies = s.lki.replies ∧
          t.alb.base = some (s.leaps.labelAdd s.fout j b) ∧ t.alb.basePos = (s.alb.basePos + j) % 128 ∧
          t.alb.drainSkipped = min (s.alb.drainSkipped + j) 4294967295 ∧
          t.sem = (if s.sem.cursor = .idle then
            { s.sem with cursor := .offered ((s.alb.basePos + j) % 128) y.label } else s.sem)) ∧
        ((∀ x ∈ s.alb.slots, x = .vacant) →
          t.alb = { s.alb with runState := .standby } ∧ t.rqh = { s.rqh with deferred := none } ∧ t.sem = s.sem ∧
            ∃ body : List Byte, StopReport body s.alb.start s.alb.base s.alb.frontier ∧
              t.lki.replies = s.lki.replies ++ [⟨true, tag, 0x0D :: 0x00 :: 0x00 :: body⟩]))

/-- BUFFER_QUERY reads every block in one act at its byte places (10 R206): each triple is an offset, a width and the value
there; what is absent reads 0; the query's own entry is not counted among those that wait. It arms the three marks, and with
the clearing option sets the counters to 0 and the low-water mark to the free count; a bad option does neither (08 R180,
R181). -/
def Obligations.BufferQueryReads : Prop :=
  ∀ (s : State) (tag : Byte) (o : Nat), o < 256 → s.Asked tag 0x0E (be 1 o) →
    (1 < o → exec .bufferQuery s = .next (s.replied tag 0x0E .badValue 1 [])) ∧
    (∀ sets link : List Nat, o ≤ 1 → s.alb.PoolSound → s.lki.inbound.length ≤ 32 → s.lki.replies.length ≤ 9 →
      s.ntq.records.length ≤ 32 → s.sem.late.length ≤ 16 → s.lki.creditLast ≤ 15 →
      sets = [s.alb.openedTick, s.alb.openedFrame, s.alb.sealedComplete, s.alb.sealedDeadline, s.alb.sealedHorizon,
        s.alb.sealedPool, s.alb.sealedDrain, s.alb.drainSkipped, s.sem.setsSent, s.sem.lateSent] →
      link = [s.fck.malformed, s.fck.checkError, s.fck.badPath, s.fck.unknownSource, s.lki.headerError, s.lki.unknownClass,
        s.lki.tooLong, s.lki.truncated, s.lki.checkError, s.lki.overrun, s.lki.accepted] →
      (∀ v ∈ s.ntq.lost :: sets ++ link, v ≤ 4294967295) → s.alb.lowWater ≤ 8192 →
      (∀ l, s.alb.start = some l ∨ s.alb.base = some l ∨ s.alb.frontier = some l ∨
        (∃ p, s.sem.cursor = .offered p l ∨ s.sem.cursor = .sending p l) → l.index < 256) →
      ∃ (t : State) (body : List Byte), exec .bufferQuery s = .next (t.replied tag 0x0E .ok 0 body) ∧ body.length = 130 ∧
        (∀ e ∈ ([(0, 1, s.alb.runState.code), (22, 1, s.alb.openCount), (23, 1, s.alb.slots.countP Slot.isSealed),
            (24, 2, s.alb.free.length), (26, 2, s.alb.lowWater), (68, 1, s.sem.late.length), (69, 1, s.sem.cursor.code),
            (120, 1, s.lki.inbound.length - 1), (121, 1, s.lki.replies.length), (122, 1, s.lki.creditLast),
            (123, 1, s.ntq.records.length), (124, 4, s.ntq.lost), (128, 1, s.rqh.deferred.isSome.toNat),
            (129, 1, (s.rqh.deferred.getD 0).toNat)] : List (Nat × Nat × Nat)), field body e.1 e.2.1 = e.2.2) ∧
        (∀ (off : Nat) (x : Option Label),
          off = 1 ∧ x = s.alb.start ∨ off = 8 ∧ x = s.alb.base ∨ off = 15 ∧ x = s.alb.frontier →
          (x = none → field body off 7 = 0) ∧
          (∀ l, x = some l → field body off 1 = 1 ∧ field body (off + 1) 4 = l.second.label.toNat ∧
            field body (off + 5) 1 = l.second.inserted.toNat ∧ field body (off + 6) 1 = l.index)) ∧
        (s.sem.cursor = .idle → field body 70 6 = 0) ∧
        (∀ p l, s.sem.cursor = .offered p l ∨ s.sem.cursor = .sending p l → field body 70 4 = l.second.label.toNat ∧
          field body 74 1 = l.second.inserted.toNat ∧ field body 75 1 = l.index) ∧
        (∀ i v, sets[i]? = some v → field body (28 + 4 * i) 4 = v) ∧
        (∀ i v, link[i]? = some v → field body (76 + 4 * i) 4 = v) ∧
        t.fck.armed = true ∧ t.alb.pressureArmed = true ∧ t.lki.overrunArmed = true ∧
        t = { s with fck := t.fck, alb := t.alb, sem := t.sem, lki := t.lki } ∧
        t.alb.slots = s.alb.slots ∧ t.alb.free = s.alb.free ∧ t.alb.base = s.alb.base ∧ t.sem.late = s.sem.late ∧
        t.sem.cursor = s.sem.cursor ∧ t.lki.inbound = s.lki.inbound ∧ t.lki.replies = s.lki.replies ∧
        (o = 0 → t.fck = { s.fck with armed := true } ∧ t.alb = { s.alb with pressureArmed := true } ∧ t.sem = s.sem ∧
          t.lki = { s.lki with overrunArmed := true }) ∧
        (o = 1 → t.alb.lowWater = s.alb.free.length ∧
          [t.fck.malformed, t.fck.checkError, t.fck.badPath, t.fck.unknownSource, t.lki.headerError, t.lki.unknownClass,
            t.lki.tooLong, t.lki.truncated, t.lki.checkError, t.lki.overrun, t.lki.accepted, t.alb.openedTick,
            t.alb.openedFrame, t.alb.sealedComplete, t.alb.sealedDeadline, t.alb.sealedHorizon, t.alb.sealedPool,
            t.alb.sealedDrain, t.alb.drainSkipped, t.sem.setsSent, t.sem.lateSent] = List.replicate 21 0))

/-! ### Messages -/

/-- The arbiter, with the transmitter IDLE and HRDY high, starts the highest class that waits: the oldest reply leaves its
queue; the oldest notice takes the lost count; the FLOW flag is cleared; a LATE is sent from the head entry (07 R153 to
R155, 06 R135, 09 R188, R189). The RESET_DONE of a pin reset goes ahead of the replies with a lost count of 0 (09 R192), the
losses staying for the next NOTICE: log 41 (DESIGN CHOICE, unsafe). The first byte begins on a falling edge of LTXC, which is
the event itself or comes after it: log 35 (DESIGN CHOICE, unsafe). A LATE payload is ten bytes and one PRESENT entry, its expected mark clear
(10 R207, R208), and a NOTICE payload 19 bytes by its kind (09 R190, 10 R201, R209, R210). On the line, high at rest and in a
pause, a message is SYNC, class, tag, length, credit, header check, payload and check word (07 R143, 10 R200), and a byte, of
40 cycles, is a start bit at low level, its eight bits least significant first and a stop bit at high level, four cycles each;
LTXC runs at one quarter of REFCLK, and a cycle that changes LTXD is one on which LTXC falls (07 R142; the duty of LTXC is
log 35, DESIGN CHOICE). -/
def Obligations.MessagesStart : Prop :=
  ∀ s : State,
    (s.lki.tx = none → s.pins.hrdy = true →
      (∀ r rs, s.lki.replies = r :: rs → (∀ n, s.ntq.records.head? = some n → ∀ x, n.event ≠ .resetDone .pin x) →
        exec .replyStart s = .next { s with
          lki := { s.lki with replies := rs, tx := some (begun s.lki.ltxcPhase .reply r.tag r.payload) } }) ∧
      (∀ (n : Notice) (ns : List Notice) (first : Bool), s.ntq.records = n :: ns →
        (first = true ↔ ∃ x, n.event = .resetDone .pin x) → s.lki.replies = [] ∨ first = true →
        exec .noticeStart s = .next { s with
          ntq := ⟨{ n with lost := if first = true then 0 else s.ntq.lost } :: ns, if first = true then s.ntq.lost else 0⟩
          lki := { s.lki with
            tx := some (begun s.lki.ltxcPhase .notice 0 ((match n.event with
                | .timeState old new x =>
                  [0x01, 0x06, 0x00, BitVec.ofNat 8 old.code, BitVec.ofNat 8 new.code] ++ be 4 x.toNat
                | .timeStep d => [0x02, 0x00, 0x00, 0x00, 0x00] ++ be 4 (BitVec.ofInt 32 d).toNat
                | .leap dir x => [0x03, 0x04, 0x00, 0x00, if dir = .ins then 0x01 else 0x02] ++ be 4 x.toNat
                | .streamState k old new cause =>
                  [0x04, 0x07, BitVec.ofNat 8 k, BitVec.ofNat 8 old.code, BitVec.ofNat 8 new.code, 0x00, 0x00, 0x00,
                    match cause with
                    | .request => 0 | .goodFrame => 1 | .errors => 2 | .recovery => 3 | .silence => 4 | .layout => 5]
                | .pathState k was up p =>
                  [0x05, 0x07, BitVec.ofNat 8 k, if was = true then 0x01 else 0x00, if up = true then 0x01 else 0x00,
                    0x00, 0x00, 0x00, if p = .a then 0x00 else 0x01]
                | .layoutChange k rate => [0x06, 0x01, BitVec.ofNat 8 k, 0x00, 0x00] ++ be 4 rate
                | .layoutMismatch k rate => [0x07, 0x01, BitVec.ofNat 8 k, 0x00, 0x00] ++ be 4 rate
                | .unknownSource x => [0x08, 0x00, 0x00, 0x00, 0x00] ++ be 4 x
                | .linkOverrun cls => [0x09, 0x00, 0x00, 0x00, 0x00, 0x00, 0x00, 0x00, cls]
                | .sealPressure k cause =>
                  [0x0A, 0x01, BitVec.ofNat 8 k, 0x00, 0x00, 0x00, 0x00, 0x00,
                    match cause with | .complete => 0 | .deadline => 1 | .horizon => 2 | .pool => 3 | .drain => 4]
                | .resetDone cause x => [0x0B, 0x04, 0x00, 0x00, if cause = .pin then 0x00 else 0x01] ++ be 4 x)
              ++ be 6 n.uptime.toNat ++ be 4 (if first = true then 0 else s.ntq.lost))) } }) ∧
      (s.lki.replies = [] → s.ntq.records = [] → s.lki.flowPending = true →
        exec .flowStart s = .next { s with
          lki := { s.lki with flowPending := false, tx := some (begun s.lki.ltxcPhase .flow 0 []) } }) ∧
      (∀ e es, s.lki.replies = [] → s.ntq.records = [] → s.lki.flowPending = false → s.sem.cursor = .idle →
        s.sem.late = e :: es →
        ∃ payload : List Byte,
          exec .lateStart s = .next { s with
            lki := { s.lki with tx := some (begun s.lki.ltxcPhase .late 0 payload) } } ∧
          Laid payload [(0, 2, s.rqh.identity % 65536), (2, 4, e.label.second.label.toNat),
            (6, 1, e.label.second.inserted.toNat), (7, 1, e.label.index % 256), (8, 1, e.rateCode % 256),
            (9, 1, if e.kind = .passed then 0 else 1)] ∧
          10 ≤ payload.length ∧ EntryLaid (payload.drop 10) e.cell.stream 0 false 0 e.cell)) ∧
    [TimeState.unset, .acquiring, .locked, .holdover, .free].map TimeState.code = [0, 1, 2, 3, 4] ∧
    [StreamState.disabled, .learning, .waiting, .locked, .faulted, .silent].map StreamState.code = [0, 1, 2, 3, 4, 5] ∧
    s.ltxc = decide (2 ≤ s.lki.ltxcPhase) ∧ (passCycle s).lki.ltxcPhase = (s.lki.ltxcPhase + 1) % 4 ∧
    (s.lki.TransmitSound → (passCycle s).ltxd ≠ s.ltxd → s.ltxc = true ∧ (passCycle s).ltxc = false) ∧
    (s.lki.tx = none → s.ltxd = true) ∧
    (∀ m, s.lki.tx = some m → m.left = 0 → s.ltxd = true) ∧
    (∀ (m : TxMessage) (cls hi lo cr v : Byte) (bit part : Nat), s.lki.tx = some m → m.payload.length < 65536 →
      cls = (match m.cls with | .reply => 0x81 | .set => 0x82 | .late => 0x83 | .notice => 0x84 | .flow => 0x85) →
      hi = BitVec.ofNat 8 (m.payload.length / 256) → lo = BitVec.ofNat 8 m.payload.length →
      m.out ≤ 5 ∨ m.credit = some cr.toNat →
      1 ≤ m.out → ([0xD3, cls, m.tag, hi, lo, cr, crc8 [cls, m.tag, hi, lo, cr]] ++ m.payload
        ++ [BitVec.ofNat 8 ((crc16 m.payload).toNat / 256), BitVec.ofNat 8 (crc16 m.payload).toNat])[m.out - 1]? = some v →
      m.left + 4 * bit + part = 40 → part < 4 → bit < 10 →
      (bit = 0 → s.ltxd = false) ∧ (∀ i, bit = i + 1 → i < 8 → s.ltxd = v.getLsbD i) ∧ (bit = 9 → s.ltxd = true))

/-- The start of a SET fixes it: its entries are the streams expected or present, in ascending order, each PRESENT with its
cell; without one HELD, where the stream holds on loss and its hold value's age is below the limit; or else ABSENT; the
counts of the record are those of the slot and of the HELD entries (06 R122 to R125, R127). Each PRESENT entry counts and
offers its cell as hold value, taken at age 0 when the cell fits the stream's record (03 R65); each HELD entry counts and
takes its age into the record; each ABSENT entry counts (06 R129). The cursor is SENDING and nothing else changes. The payload is the 20 bytes of the header and the entries one
after the other, each by the layout it carries, an ABSENT one of three bytes (10 R201, R207, R208). The first byte begins
on a falling edge of LTXC, which is the event itself or comes after it: log 35 (DESIGN CHOICE, unsafe). -/
def Obligations.SetFixedAtStart : Prop :=
  ∀ (s : State) (pos : Nat) (l : Label) (c : SealCause) (d : SlotData), s.streams.length = 256 →
    s.lki.tx = none → s.pins.hrdy = true → s.lki.replies = [] → s.ntq.records = [] → s.lki.flowPending = false →
    s.sem.cursor = .offered pos l → s.slotAt pos = .sealed c d →
    ∃ (t : State) (r : SetRecord) (payload : List Byte) (ws : List (List Byte)), exec .setStart s = .next t ∧
      t = { s with
        streams := t.streams
        sem := { s.sem with cursor := .sending pos l, record := some r }
        lki := { s.lki with tx := some (begun s.lki.ltxcPhase .set 0 payload) } } ∧
      r = ⟨s.rqh.identity, d.label, s.rqh.config.rateCode, d.openCause, c, d.grade, d.expected.length, d.expectedPresent,
        d.present.length, r.entries.countP (fun e => match e.body with | .held .. => true | _ => false), r.entries⟩ ∧
      Laid payload [(0, 2, s.rqh.identity % 65536), (2, 4, d.label.second.label.toNat), (6, 1, d.label.second.inserted.toNat),
        (7, 1, d.label.index % 256), (8, 1, s.rqh.config.rateCode % 256), (9, 1, if d.openCause = .tick then 0 else 1),
        (10, 1, match c with | .complete => 0 | .deadline => 1 | .horizon => 2 | .pool => 3 | .drain => 4),
        (11, 1, match d.grade with | .none => 0 | .a => 1 | .b => 2 | .c => 3 | .d => 4),
        (12, 2, d.expected.length % 65536), (14, 2, d.expectedPresent % 65536), (16, 2, d.present.length % 65536),
        (18, 2, r.heldCount % 65536)] ∧
      20 ≤ payload.length ∧ payload.drop 20 = ws.flatten ∧ ws.length = r.entries.length ∧
      (∀ (i : Nat) (e : SetEntry) (w : List Byte), r.entries[i]? = some e → ws[i]? = some w →
        match e.body with
        | .present x => EntryLaid w e.stream 0 e.expected 0 x
        | .held x age => EntryLaid w e.stream 1 e.expected age x
        | .absent => w.length = 3 ∧ Laid w [(0, 1, e.stream), (1, 1, 2), (2, 1, e.expected.toNat)]) ∧
      (r.entries.map (·.stream)).Pairwise (· < ·) ∧
      (∀ n, n ∈ r.entries.map (·.stream) ↔ n < 256 ∧ (n ∈ d.expected ∨ ∃ h ∈ d.present, h.cell.stream = n)) ∧
      (∀ n, n ∉ r.entries.map (·.stream) → t.stream n = s.stream n) ∧
      (∀ (e : SetEntry) (q : StreamRec), e ∈ r.entries → q = s.stream e.stream →
        e.expected = decide (e.stream ∈ d.expected) ∧
        match e.body with
        | .present x => (∃ h ∈ d.present, h.cell = x ∧ x.stream = e.stream) ∧
            ∃ y : Option HoldValue,
              t.stream e.stream = { q with
                hold := y
                counters := { q.counters with present := min (q.counters.present + 1) 4294967295 } } ∧
              ((q.state ≠ .disabled ∧ q.fill = .hold ∧ x.source = q.source ∧ ∃ z, q.layout = some z ∧
                  z.shape.phasors = x.data.phasors.length ∧ z.shape.analogs = x.data.analogs.length ∧
                  z.shape.digitals = x.data.digitals.length) ∧ y = some ⟨x, 0⟩ ∨
                (q.state = .disabled ∨ q.fill = .none ∨ x.source ≠ q.source ∨ ∀ z, q.layout = some z →
                  z.shape.phasors ≠ x.data.phasors.length ∨ z.shape.analogs ≠ x.data.analogs.length ∨
                  z.shape.digitals ≠ x.data.digitals.length) ∧ y = q.hold)
        | .held x age => (∀ h ∈ d.present, h.cell.stream ≠ e.stream) ∧ q.fill = .hold ∧
            ∃ v : HoldValue, q.hold = some v ∧ x = v.cell ∧ age = v.age + 1 ∧ v.age < q.holdLimit ∧
              t.stream e.stream = { q with
                hold := some ⟨x, min age 15⟩
                counters := { q.counters with held := min (q.counters.held + 1) 4294967295 } }
        | .absent => (∀ h ∈ d.present, h.cell.stream ≠ e.stream) ∧
            (q.fill = .none ∨ q.hold = none ∨ ∃ v, q.hold = some v ∧ q.holdLimit ≤ v.age) ∧
            t.stream e.stream = { q with
              counters := { q.counters with absent := min (q.counters.absent + 1) 4294967295 } })

/-- The end of a message leaves the transmitter IDLE, its source's record removed and counted (06 R135, 09 R189); when no
message but a FLOW waits after it and the credit is above the credit last sent, the FLOW flag is set (07 R153). The end of
the SOFT_RESET's OK opens the gate and posts RESET_DONE in front, the newest record going lost from a full queue (07 R155,
R160, 09 R192). -/
def Obligations.MessagesEnd : Prop :=
  ∀ (s : State) (m : TxMessage) (records : List Notice) (late : List LateEntry) (flow : Bool),
    s.lki.tx = some m → m.out = m.payload.length + 9 → m.left = 0 →
    records = (if m.cls = .notice then s.ntq.records.tail else s.ntq.records) →
    late = (if m.cls = .late then s.sem.late.tail else s.sem.late) →
    (flow = true ↔ s.lki.flowPending = true ∨
      s.lki.replies = [] ∧ records = [] ∧ late = [] ∧ (∀ p l, s.sem.cursor ≠ .offered p l) ∧
        s.lki.creditLast < min (32 - s.lki.inbound.length) 15) →
    (m.cls = .reply → s.lki.gate ≠ .resetting ∨ m.payload ≠ [0x0F, 0x00, 0x00] →
      exec .replyEnd s = .next { s with lki := { s.lki with tx := none, flowPending := flow } }) ∧
    (m.cls = .reply → s.lki.gate = .resetting → m.payload = [0x0F, 0x00, 0x00] →
      exec .replyEnd s = .next { s with
        lki := { s.lki with tx := none, gate := .opened, discard := 0 }
        ntq := if s.ntq.records.length < 32 then
            ⟨⟨.resetDone .soft s.lki.discard, s.tbu.uptime, 0⟩ :: s.ntq.records, s.ntq.lost⟩
          else ⟨⟨.resetDone .soft s.lki.discard, s.tbu.uptime, 0⟩ :: s.ntq.records.dropLast,
            min (s.ntq.lost + 1) 4294967295⟩ }) ∧
    (m.cls = .notice →
      exec .noticeEnd s = .next { s with
        ntq := { s.ntq with records := records }
        lki := { s.lki with tx := none, flowPending := flow } }) ∧
    (m.cls = .late →
      exec .lateEnd s = .next { s with
        sem := { s.sem with late := late, lateSent := min (s.sem.lateSent + 1) 4294967295 }
        lki := { s.lki with tx := none, flowPending := flow } }) ∧
    (m.cls = .flow → exec .flowEnd s = .next { s with lki := { s.lki with tx := none, flowPending := flow } })

/-- At the emission end the SET is counted, its record gone, and the cells of the slot at B join the tail of the free list;
the FLOW flag is set as at every end (06 R131, 07 R153). In RUNNING, B advances by one label and one position; the label now
at B + 127 opens with cause TICK when the frontier has reached it, and the slot now at B is offered when SEALED (05 R115). In
DRAINING, B skips the FREE labels, counted DRAIN_SKIPPED, to the next SEALED slot, which is offered; with none left the run
state is STANDBY and the deferred ALIGN_STOP is answered OK in the kept place, with STANDBY, the start label, the advanced B
and the frontier (05 R92, 06 R137, 08 R178, 10 R199, R206). In STANDBY the SET was in
transmission at a SOFT_RESET: its slot goes FREE, and B, the base position and the start label take their reset values (05
R120). -/
def Obligations.EmissionEnds : Prop :=
  ∀ (s : State) (m : TxMessage) (c : SealCause) (d : SlotData) (p : Nat),
    s.lki.tx = some m → m.cls = .set → m.out = m.payload.length + 9 → m.left = 0 →
    s.alb.slots.length = 128 → p = s.alb.basePos → p < 128 → s.slotAt p = .sealed c d →
    ∃ t : State, exec .setEmissionEnd s = .next t ∧ t.lki.tx = none ∧ t.sem.record = none ∧
      t.sem.setsSent = min (s.sem.setsSent + 1) 4294967295 ∧ t.sem.late = s.sem.late ∧
      t.alb.free = s.alb.free ++ d.present.map (·.number) ∧ t.streams = s.streams ∧ t.tbu = s.tbu ∧ t.ntq = s.ntq ∧
      (∀ q, q ≠ p → t.slotAt q = s.slotAt q) ∧
      (t.lki.flowPending = true ↔ s.lki.flowPending = true ∨
        t.lki.replies = [] ∧ t.ntq.records = [] ∧ t.sem.late = [] ∧ (∀ q l, t.sem.cursor ≠ .offered q l) ∧
          s.lki.creditLast < min (32 - s.lki.inbound.length) 15) ∧
      (∀ b b' w f, s.alb.runState = .running → s.alb.base = some b → s.alb.frontier = some f →
        b' = (if b.index + 1 < s.fout then ⟨b.second, b.index + 1⟩ else ⟨s.leaps.succ b.second, 0⟩) →
        w = s.leaps.labelAdd s.fout 127 b' →
        t.alb.runState = .running ∧ t.alb.base = some b' ∧ t.alb.basePos = (p + 1) % 128 ∧ t.alb.frontier = some f ∧
        t.rqh = s.rqh ∧ t.lki.replies = s.lki.replies ∧
        (s.leaps.labelBefore s.fout f w = true → t.slotAt p = .vacant) ∧
        (s.leaps.labelBefore s.fout f w = false →
          t.slotAt p = (openIfVacant p w .tick (s.setSlot p .vacant)).slotAt p) ∧
        ((∃ (c' : SealCause) (y : SlotData), t.slotAt t.alb.basePos = .sealed c' y ∧
            t.sem.cursor = .offered t.alb.basePos y.label) ∨
          (t.slotAt t.alb.basePos).isSealed = false ∧ t.sem.cursor = .idle)) ∧
      (∀ b, s.alb.runState = .draining → s.alb.RunSound → s.alb.base = some b → s.alb.drainSkipped ≤ 4294967295 →
        t.slotAt p = .vacant ∧
        (∀ (j : Nat) (c' : SealCause) (y : SlotData), 1 ≤ j → j < 128 → s.slotAt ((p + j) % 128) = .sealed c' y →
          (∀ i, 1 ≤ i → i < j → s.slotAt ((p + i) % 128) = .vacant) →
          t.alb.runState = .draining ∧ t.alb.base = some (s.leaps.labelAdd s.fout j b) ∧ t.alb.basePos = (p + j) % 128 ∧
          t.alb.drainSkipped = min (s.alb.drainSkipped + (j - 1)) 4294967295 ∧
          t.sem.cursor = .offered ((p + j) % 128) y.label ∧ t.rqh = s.rqh ∧ t.lki.replies = s.lki.replies) ∧
        ((∀ q, q ≠ p → s.slotAt q = .vacant) →
          t.alb.runState = .standby ∧ t.alb.base = some (s.leaps.labelAdd s.fout 1 b) ∧ t.alb.basePos = (p + 1) % 128 ∧
          t.alb.start = s.alb.start ∧ t.alb.frontier = s.alb.frontier ∧ t.alb.drainSkipped = s.alb.drainSkipped ∧
          t.sem.cursor = .idle ∧ t.rqh = { s.rqh with deferred := none } ∧
          (s.rqh.deferred = none → t.lki.replies = s.lki.replies) ∧
          (∀ tag, s.rqh.deferred = some tag → ∃ body : List Byte,
            StopReport body s.alb.start (some (s.leaps.labelAdd s.fout 1 b)) s.alb.frontier ∧
            t.lki.replies = s.lki.replies ++ [⟨true, tag, 0x0D :: 0x00 :: 0x00 :: body⟩]))) ∧
      (s.alb.runState = .standby →
        t.alb = { s.alb with
          slots := s.alb.slots.set p .vacant
          free := t.alb.free
          start := none
          base := none
          basePos := 0 } ∧
        t.sem.cursor = .idle ∧ t.rqh = s.rqh ∧ t.lki.replies = s.lki.replies)

/-- HRDY: a fall changes its level alone, since the byte begun finishes, and the message pauses at the boundary after it; a
rise lets a paused message begin its next byte and changes nothing for one between two boundaries (07 R156). The credit byte
is the one after five, and the credit is taken as it begins (07 R152). That a paused message resumes without waiting for ten
bit times to be up is log 29 (DEDUCED, unsafe); that its next byte begins in the event of the rise on a falling edge of LTXC,
and otherwise on the next such edge, is log 35 (DESIGN CHOICE, unsafe). -/
def Obligations.HrdyPausesAndResumes : Prop :=
  ∀ s : State,
    exec .hrdyFall s = .next { s with pins := { s.pins with hrdy := false } } ∧
    (∀ m, s.lki.tx = some m → m.left ≤ 1 → m.out < m.payload.length + 9 → (s.lki.ltxcPhase + 1) % 4 = 0 →
      s.pins.hrdy = false →
      txCycle s = { s with lki := { s.lki with ltxcPhase := 0, tx := some { m with left := 0, paused := true } } }) ∧
    ((∀ m, s.lki.tx = some m → m.paused = false) →
      exec .hrdyRise s = .next { s with pins := { s.pins with hrdy := true } }) ∧
    (∀ (m : TxMessage) (l : Lki), s.lki.tx = some m → m.paused = true →
      l = { s.lki with
        creditLast := if m.out = 5 then min (32 - s.lki.inbound.length) 15 else s.lki.creditLast
        tx := some { m with
          out := m.out + 1
          left := 40
          paused := false
          credit := if m.out = 5 then some (min (32 - s.lki.inbound.length) 15) else m.credit } } →
      (s.lki.ltxcPhase = 0 → exec .hrdyRise s = .next { s with pins := { s.pins with hrdy := true }, lki := l }) ∧
      (s.lki.ltxcPhase ≠ 0 → exec .hrdyRise s = .next { s with pins := { s.pins with hrdy := true } }) ∧
      (m.left ≤ 1 → m.out < m.payload.length + 9 → (s.lki.ltxcPhase + 1) % 4 = 0 → s.pins.hrdy = true →
        txCycle s = { s with lki := { l with ltxcPhase := 0 } }))

/-! ### Arithmetic -/

/-- The latency filter (04 R80): the formula, its range, and where runs of equal samples settle. -/
def Obligations.LatencyFilter : Prop :=
  ∀ l x : Nat, l ≤ 4000000 → x ≤ 4000000 →
    (∀ r : StreamRec, r.lhat = some l → r.seedMark = false → (r.sample x).lhat = some (filterLatency l x)) ∧
    (filterLatency l x : Int) = (l : Int) + ((x : Int) - (l : Int)) / 8 ∧
    min l x ≤ filterLatency l x ∧ filterLatency l x ≤ max l x ∧ filterLatency l x ≤ 4000000 ∧
    (x < l → filterLatency l x ≤ l - 1) ∧
    (l ≤ x → x ≤ l + 7 → filterLatency l x = l) ∧
    (x ≤ l → ∃ n, ∀ k, n ≤ k → (List.replicate k x).foldl filterLatency l = x) ∧
    (l ≤ x → ∃ n, ∀ k, n ≤ k →
      x - 7 ≤ (List.replicate k x).foldl filterLatency l ∧ (List.replicate k x).foldl filterLatency l ≤ x)

/-- Where the output grid and a stream's grid meet (04 R82): the test, its agreement with the frames that can be placed,
the equal instants, and its use in a slot's expected set. -/
def Obligations.GridsMeet : Prop :=
  ∀ (fout fs i : Nat), 1 ≤ fout → 1 ≤ fs → i < fout →
    (onGrid fout fs i = true ↔ i * fs % fout = 0) ∧
    (onGrid fout fs i = true ↔ ∃ j, j < fs ∧ j * fout % fs = 0 ∧ j * fout / fs = i) ∧
    (∀ j, onGrid fout fs i = true → j = i * fs / fout →
      j < fs ∧ j * fout = i * fs ∧ gridPoint fs j = gridPoint fout i ∧
        ∀ ns : Nat, (ns : Int) - (gridPoint fs j : Int) = (ns : Int) - (gridPoint fout i : Int)) ∧
    (∀ (s : State) (n : Nat) (l : Label), s.fout = fout → l.index = i →
      (n ∈ s.expectedAt l ↔ n < 256 ∧ (s.stream n).state = .locked ∧
        ∃ x, (s.stream n).layout = some x ∧ onGrid fout (rateOf x.shape.rateCode) i = true))
end

