-- ==== Sys2Proof/Laws/State.lean ====
section
/-! SUPPORT. One lemma per field per named update of State: what each update leaves as it was, true by rfl. -/

namespace Sys2Proof.Machine

/-! ### modStream -/

@[simp] theorem State.modStream_pending (s : State) (n : Nat) (f : StreamRec → StreamRec) : (s.modStream n f).pending = s.pending := rfl
@[simp] theorem State.modStream_straps (s : State) (n : Nat) (f : StreamRec → StreamRec) : (s.modStream n f).straps = s.straps := rfl
@[simp] theorem State.modStream_pins (s : State) (n : Nat) (f : StreamRec → StreamRec) : (s.modStream n f).pins = s.pins := rfl
@[simp] theorem State.modStream_tbu (s : State) (n : Nat) (f : StreamRec → StreamRec) : (s.modStream n f).tbu = s.tbu := rfl
@[simp] theorem State.modStream_fck (s : State) (n : Nat) (f : StreamRec → StreamRec) : (s.modStream n f).fck = s.fck := rfl
@[simp] theorem State.modStream_sourceMap (s : State) (n : Nat) (f : StreamRec → StreamRec) : (s.modStream n f).sourceMap = s.sourceMap := rfl
@[simp] theorem State.modStream_alb (s : State) (n : Nat) (f : StreamRec → StreamRec) : (s.modStream n f).alb = s.alb := rfl
@[simp] theorem State.modStream_sem (s : State) (n : Nat) (f : StreamRec → StreamRec) : (s.modStream n f).sem = s.sem := rfl
@[simp] theorem State.modStream_ntq (s : State) (n : Nat) (f : StreamRec → StreamRec) : (s.modStream n f).ntq = s.ntq := rfl
@[simp] theorem State.modStream_lki (s : State) (n : Nat) (f : StreamRec → StreamRec) : (s.modStream n f).lki = s.lki := rfl
@[simp] theorem State.modStream_rqh (s : State) (n : Nat) (f : StreamRec → StreamRec) : (s.modStream n f).rqh = s.rqh := rfl
@[simp] theorem State.modStream_fresh (s : State) (n : Nat) (f : StreamRec → StreamRec) : (s.modStream n f).fresh = s.fresh := rfl

/-! ### count -/

@[simp] theorem State.count_pending (s : State) (n : Nat) (f : StreamCounters → StreamCounters) : (s.count n f).pending = s.pending := rfl
@[simp] theorem State.count_straps (s : State) (n : Nat) (f : StreamCounters → StreamCounters) : (s.count n f).straps = s.straps := rfl
@[simp] theorem State.count_pins (s : State) (n : Nat) (f : StreamCounters → StreamCounters) : (s.count n f).pins = s.pins := rfl
@[simp] theorem State.count_tbu (s : State) (n : Nat) (f : StreamCounters → StreamCounters) : (s.count n f).tbu = s.tbu := rfl
@[simp] theorem State.count_fck (s : State) (n : Nat) (f : StreamCounters → StreamCounters) : (s.count n f).fck = s.fck := rfl
@[simp] theorem State.count_sourceMap (s : State) (n : Nat) (f : StreamCounters → StreamCounters) : (s.count n f).sourceMap = s.sourceMap := rfl
@[simp] theorem State.count_alb (s : State) (n : Nat) (f : StreamCounters → StreamCounters) : (s.count n f).alb = s.alb := rfl
@[simp] theorem State.count_sem (s : State) (n : Nat) (f : StreamCounters → StreamCounters) : (s.count n f).sem = s.sem := rfl
@[simp] theorem State.count_ntq (s : State) (n : Nat) (f : StreamCounters → StreamCounters) : (s.count n f).ntq = s.ntq := rfl
@[simp] theorem State.count_lki (s : State) (n : Nat) (f : StreamCounters → StreamCounters) : (s.count n f).lki = s.lki := rfl
@[simp] theorem State.count_rqh (s : State) (n : Nat) (f : StreamCounters → StreamCounters) : (s.count n f).rqh = s.rqh := rfl
@[simp] theorem State.count_fresh (s : State) (n : Nat) (f : StreamCounters → StreamCounters) : (s.count n f).fresh = s.fresh := rfl

/-! ### setSlot -/

@[simp] theorem State.setSlot_pending (s : State) (pos : Nat) (x : Slot) : (s.setSlot pos x).pending = s.pending := rfl
@[simp] theorem State.setSlot_straps (s : State) (pos : Nat) (x : Slot) : (s.setSlot pos x).straps = s.straps := rfl
@[simp] theorem State.setSlot_pins (s : State) (pos : Nat) (x : Slot) : (s.setSlot pos x).pins = s.pins := rfl
@[simp] theorem State.setSlot_tbu (s : State) (pos : Nat) (x : Slot) : (s.setSlot pos x).tbu = s.tbu := rfl
@[simp] theorem State.setSlot_fck (s : State) (pos : Nat) (x : Slot) : (s.setSlot pos x).fck = s.fck := rfl
@[simp] theorem State.setSlot_streams (s : State) (pos : Nat) (x : Slot) : (s.setSlot pos x).streams = s.streams := rfl
@[simp] theorem State.setSlot_sourceMap (s : State) (pos : Nat) (x : Slot) : (s.setSlot pos x).sourceMap = s.sourceMap := rfl
@[simp] theorem State.setSlot_sem (s : State) (pos : Nat) (x : Slot) : (s.setSlot pos x).sem = s.sem := rfl
@[simp] theorem State.setSlot_ntq (s : State) (pos : Nat) (x : Slot) : (s.setSlot pos x).ntq = s.ntq := rfl
@[simp] theorem State.setSlot_lki (s : State) (pos : Nat) (x : Slot) : (s.setSlot pos x).lki = s.lki := rfl
@[simp] theorem State.setSlot_rqh (s : State) (pos : Nat) (x : Slot) : (s.setSlot pos x).rqh = s.rqh := rfl
@[simp] theorem State.setSlot_fresh (s : State) (pos : Nat) (x : Slot) : (s.setSlot pos x).fresh = s.fresh := rfl

/-! ### placeReply -/

@[simp] theorem State.placeReply_pending (s : State) (r : Reply) : (s.placeReply r).pending = s.pending := rfl
@[simp] theorem State.placeReply_straps (s : State) (r : Reply) : (s.placeReply r).straps = s.straps := rfl
@[simp] theorem State.placeReply_pins (s : State) (r : Reply) : (s.placeReply r).pins = s.pins := rfl
@[simp] theorem State.placeReply_tbu (s : State) (r : Reply) : (s.placeReply r).tbu = s.tbu := rfl
@[simp] theorem State.placeReply_fck (s : State) (r : Reply) : (s.placeReply r).fck = s.fck := rfl
@[simp] theorem State.placeReply_streams (s : State) (r : Reply) : (s.placeReply r).streams = s.streams := rfl
@[simp] theorem State.placeReply_sourceMap (s : State) (r : Reply) : (s.placeReply r).sourceMap = s.sourceMap := rfl
@[simp] theorem State.placeReply_alb (s : State) (r : Reply) : (s.placeReply r).alb = s.alb := rfl
@[simp] theorem State.placeReply_sem (s : State) (r : Reply) : (s.placeReply r).sem = s.sem := rfl
@[simp] theorem State.placeReply_ntq (s : State) (r : Reply) : (s.placeReply r).ntq = s.ntq := rfl
@[simp] theorem State.placeReply_rqh (s : State) (r : Reply) : (s.placeReply r).rqh = s.rqh := rfl
@[simp] theorem State.placeReply_fresh (s : State) (r : Reply) : (s.placeReply r).fresh = s.fresh := rfl

/-! ### freeHead -/

@[simp] theorem State.freeHead_pending (s : State) : s.freeHead.pending = s.pending := rfl
@[simp] theorem State.freeHead_straps (s : State) : s.freeHead.straps = s.straps := rfl
@[simp] theorem State.freeHead_pins (s : State) : s.freeHead.pins = s.pins := rfl
@[simp] theorem State.freeHead_tbu (s : State) : s.freeHead.tbu = s.tbu := rfl
@[simp] theorem State.freeHead_fck (s : State) : s.freeHead.fck = s.fck := rfl
@[simp] theorem State.freeHead_streams (s : State) : s.freeHead.streams = s.streams := rfl
@[simp] theorem State.freeHead_sourceMap (s : State) : s.freeHead.sourceMap = s.sourceMap := rfl
@[simp] theorem State.freeHead_alb (s : State) : s.freeHead.alb = s.alb := rfl
@[simp] theorem State.freeHead_sem (s : State) : s.freeHead.sem = s.sem := rfl
@[simp] theorem State.freeHead_ntq (s : State) : s.freeHead.ntq = s.ntq := rfl
@[simp] theorem State.freeHead_rqh (s : State) : s.freeHead.rqh = s.rqh := rfl
@[simp] theorem State.freeHead_fresh (s : State) : s.freeHead.fresh = s.fresh := rfl

/-! ### setFrame -/

@[simp] theorem State.setFrame_pending (s : State) (w : Option FrameWork) : (s.setFrame w).pending = s.pending := rfl
@[simp] theorem State.setFrame_straps (s : State) (w : Option FrameWork) : (s.setFrame w).straps = s.straps := rfl
@[simp] theorem State.setFrame_pins (s : State) (w : Option FrameWork) : (s.setFrame w).pins = s.pins := rfl
@[simp] theorem State.setFrame_tbu (s : State) (w : Option FrameWork) : (s.setFrame w).tbu = s.tbu := rfl
@[simp] theorem State.setFrame_streams (s : State) (w : Option FrameWork) : (s.setFrame w).streams = s.streams := rfl
@[simp] theorem State.setFrame_sourceMap (s : State) (w : Option FrameWork) : (s.setFrame w).sourceMap = s.sourceMap := rfl
@[simp] theorem State.setFrame_alb (s : State) (w : Option FrameWork) : (s.setFrame w).alb = s.alb := rfl
@[simp] theorem State.setFrame_sem (s : State) (w : Option FrameWork) : (s.setFrame w).sem = s.sem := rfl
@[simp] theorem State.setFrame_ntq (s : State) (w : Option FrameWork) : (s.setFrame w).ntq = s.ntq := rfl
@[simp] theorem State.setFrame_lki (s : State) (w : Option FrameWork) : (s.setFrame w).lki = s.lki := rfl
@[simp] theorem State.setFrame_rqh (s : State) (w : Option FrameWork) : (s.setFrame w).rqh = s.rqh := rfl
@[simp] theorem State.setFrame_fresh (s : State) (w : Option FrameWork) : (s.setFrame w).fresh = s.fresh := rfl
@[simp] theorem State.setFrame_fck (s : State) (w : Option FrameWork) : (s.setFrame w).fck = { s.fck with inHand := w } := rfl

/-! ### txIdle -/

@[simp] theorem State.txIdle_pending (s : State) : s.txIdle.pending = s.pending := rfl
@[simp] theorem State.txIdle_straps (s : State) : s.txIdle.straps = s.straps := rfl
@[simp] theorem State.txIdle_pins (s : State) : s.txIdle.pins = s.pins := rfl
@[simp] theorem State.txIdle_tbu (s : State) : s.txIdle.tbu = s.tbu := rfl
@[simp] theorem State.txIdle_fck (s : State) : s.txIdle.fck = s.fck := rfl
@[simp] theorem State.txIdle_streams (s : State) : s.txIdle.streams = s.streams := rfl
@[simp] theorem State.txIdle_sourceMap (s : State) : s.txIdle.sourceMap = s.sourceMap := rfl
@[simp] theorem State.txIdle_alb (s : State) : s.txIdle.alb = s.alb := rfl
@[simp] theorem State.txIdle_sem (s : State) : s.txIdle.sem = s.sem := rfl
@[simp] theorem State.txIdle_ntq (s : State) : s.txIdle.ntq = s.ntq := rfl
@[simp] theorem State.txIdle_rqh (s : State) : s.txIdle.rqh = s.rqh := rfl
@[simp] theorem State.txIdle_fresh (s : State) : s.txIdle.fresh = s.fresh := rfl

/-! ### withLeaps -/

@[simp] theorem State.withLeaps_pending (s : State) (r : Leaps) : (s.withLeaps r).pending = s.pending := rfl
@[simp] theorem State.withLeaps_straps (s : State) (r : Leaps) : (s.withLeaps r).straps = s.straps := rfl
@[simp] theorem State.withLeaps_pins (s : State) (r : Leaps) : (s.withLeaps r).pins = s.pins := rfl
@[simp] theorem State.withLeaps_fck (s : State) (r : Leaps) : (s.withLeaps r).fck = s.fck := rfl
@[simp] theorem State.withLeaps_streams (s : State) (r : Leaps) : (s.withLeaps r).streams = s.streams := rfl
@[simp] theorem State.withLeaps_sourceMap (s : State) (r : Leaps) : (s.withLeaps r).sourceMap = s.sourceMap := rfl
@[simp] theorem State.withLeaps_alb (s : State) (r : Leaps) : (s.withLeaps r).alb = s.alb := rfl
@[simp] theorem State.withLeaps_sem (s : State) (r : Leaps) : (s.withLeaps r).sem = s.sem := rfl
@[simp] theorem State.withLeaps_ntq (s : State) (r : Leaps) : (s.withLeaps r).ntq = s.ntq := rfl
@[simp] theorem State.withLeaps_lki (s : State) (r : Leaps) : (s.withLeaps r).lki = s.lki := rfl
@[simp] theorem State.withLeaps_rqh (s : State) (r : Leaps) : (s.withLeaps r).rqh = s.rqh := rfl
@[simp] theorem State.withLeaps_fresh (s : State) (r : Leaps) : (s.withLeaps r).fresh = s.fresh := rfl

/-! ### postResetDone -/

@[simp] theorem postResetDone_pending (c : ResetCause) (n : Nat) (s : State) : (postResetDone c n s).pending = s.pending := rfl
@[simp] theorem postResetDone_straps (c : ResetCause) (n : Nat) (s : State) : (postResetDone c n s).straps = s.straps := rfl
@[simp] theorem postResetDone_pins (c : ResetCause) (n : Nat) (s : State) : (postResetDone c n s).pins = s.pins := rfl
@[simp] theorem postResetDone_tbu (c : ResetCause) (n : Nat) (s : State) : (postResetDone c n s).tbu = s.tbu := rfl
@[simp] theorem postResetDone_fck (c : ResetCause) (n : Nat) (s : State) : (postResetDone c n s).fck = s.fck := rfl
@[simp] theorem postResetDone_streams (c : ResetCause) (n : Nat) (s : State) : (postResetDone c n s).streams = s.streams := rfl
@[simp] theorem postResetDone_sourceMap (c : ResetCause) (n : Nat) (s : State) : (postResetDone c n s).sourceMap = s.sourceMap := rfl
@[simp] theorem postResetDone_alb (c : ResetCause) (n : Nat) (s : State) : (postResetDone c n s).alb = s.alb := rfl
@[simp] theorem postResetDone_sem (c : ResetCause) (n : Nat) (s : State) : (postResetDone c n s).sem = s.sem := rfl
@[simp] theorem postResetDone_lki (c : ResetCause) (n : Nat) (s : State) : (postResetDone c n s).lki = s.lki := rfl
@[simp] theorem postResetDone_rqh (c : ResetCause) (n : Nat) (s : State) : (postResetDone c n s).rqh = s.rqh := rfl
@[simp] theorem postResetDone_fresh (c : ResetCause) (n : Nat) (s : State) : (postResetDone c n s).fresh = s.fresh := rfl

/-! ### advanceBase -/

@[simp] theorem advanceBase_pending (s : State) : (advanceBase s).pending = s.pending := rfl
@[simp] theorem advanceBase_straps (s : State) : (advanceBase s).straps = s.straps := rfl
@[simp] theorem advanceBase_pins (s : State) : (advanceBase s).pins = s.pins := rfl
@[simp] theorem advanceBase_tbu (s : State) : (advanceBase s).tbu = s.tbu := rfl
@[simp] theorem advanceBase_fck (s : State) : (advanceBase s).fck = s.fck := rfl
@[simp] theorem advanceBase_streams (s : State) : (advanceBase s).streams = s.streams := rfl
@[simp] theorem advanceBase_sourceMap (s : State) : (advanceBase s).sourceMap = s.sourceMap := rfl
@[simp] theorem advanceBase_sem (s : State) : (advanceBase s).sem = s.sem := rfl
@[simp] theorem advanceBase_ntq (s : State) : (advanceBase s).ntq = s.ntq := rfl
@[simp] theorem advanceBase_lki (s : State) : (advanceBase s).lki = s.lki := rfl
@[simp] theorem advanceBase_rqh (s : State) : (advanceBase s).rqh = s.rqh := rfl
@[simp] theorem advanceBase_fresh (s : State) : (advanceBase s).fresh = s.fresh := rfl

/-! ### countDiscard -/

@[simp] theorem countDiscard_pending (s : State) : (countDiscard s).pending = s.pending := rfl
@[simp] theorem countDiscard_straps (s : State) : (countDiscard s).straps = s.straps := rfl
@[simp] theorem countDiscard_pins (s : State) : (countDiscard s).pins = s.pins := rfl
@[simp] theorem countDiscard_tbu (s : State) : (countDiscard s).tbu = s.tbu := rfl
@[simp] theorem countDiscard_fck (s : State) : (countDiscard s).fck = s.fck := rfl
@[simp] theorem countDiscard_streams (s : State) : (countDiscard s).streams = s.streams := rfl
@[simp] theorem countDiscard_sourceMap (s : State) : (countDiscard s).sourceMap = s.sourceMap := rfl
@[simp] theorem countDiscard_alb (s : State) : (countDiscard s).alb = s.alb := rfl
@[simp] theorem countDiscard_sem (s : State) : (countDiscard s).sem = s.sem := rfl
@[simp] theorem countDiscard_ntq (s : State) : (countDiscard s).ntq = s.ntq := rfl
@[simp] theorem countDiscard_rqh (s : State) : (countDiscard s).rqh = s.rqh := rfl
@[simp] theorem countDiscard_fresh (s : State) : (countDiscard s).fresh = s.fresh := rfl

/-! ### toHunt -/

@[simp] theorem toHunt_pending (s : State) : (toHunt s).pending = s.pending := rfl
@[simp] theorem toHunt_straps (s : State) : (toHunt s).straps = s.straps := rfl
@[simp] theorem toHunt_pins (s : State) : (toHunt s).pins = s.pins := rfl
@[simp] theorem toHunt_tbu (s : State) : (toHunt s).tbu = s.tbu := rfl
@[simp] theorem toHunt_fck (s : State) : (toHunt s).fck = s.fck := rfl
@[simp] theorem toHunt_streams (s : State) : (toHunt s).streams = s.streams := rfl
@[simp] theorem toHunt_sourceMap (s : State) : (toHunt s).sourceMap = s.sourceMap := rfl
@[simp] theorem toHunt_alb (s : State) : (toHunt s).alb = s.alb := rfl
@[simp] theorem toHunt_sem (s : State) : (toHunt s).sem = s.sem := rfl
@[simp] theorem toHunt_ntq (s : State) : (toHunt s).ntq = s.ntq := rfl
@[simp] theorem toHunt_rqh (s : State) : (toHunt s).rqh = s.rqh := rfl
@[simp] theorem toHunt_fresh (s : State) : (toHunt s).fresh = s.fresh := rfl

/-! ### setPendingLabel -/

@[simp] theorem setPendingLabel_pending (x : SecondLabel) (s : State) : (setPendingLabel x s).pending = s.pending := rfl
@[simp] theorem setPendingLabel_straps (x : SecondLabel) (s : State) : (setPendingLabel x s).straps = s.straps := rfl
@[simp] theorem setPendingLabel_pins (x : SecondLabel) (s : State) : (setPendingLabel x s).pins = s.pins := rfl
@[simp] theorem setPendingLabel_fck (x : SecondLabel) (s : State) : (setPendingLabel x s).fck = s.fck := rfl
@[simp] theorem setPendingLabel_streams (x : SecondLabel) (s : State) : (setPendingLabel x s).streams = s.streams := rfl
@[simp] theorem setPendingLabel_sourceMap (x : SecondLabel) (s : State) : (setPendingLabel x s).sourceMap = s.sourceMap := rfl
@[simp] theorem setPendingLabel_alb (x : SecondLabel) (s : State) : (setPendingLabel x s).alb = s.alb := rfl
@[simp] theorem setPendingLabel_sem (x : SecondLabel) (s : State) : (setPendingLabel x s).sem = s.sem := rfl
@[simp] theorem setPendingLabel_ntq (x : SecondLabel) (s : State) : (setPendingLabel x s).ntq = s.ntq := rfl
@[simp] theorem setPendingLabel_lki (x : SecondLabel) (s : State) : (setPendingLabel x s).lki = s.lki := rfl
@[simp] theorem setPendingLabel_rqh (x : SecondLabel) (s : State) : (setPendingLabel x s).rqh = s.rqh := rfl
@[simp] theorem setPendingLabel_fresh (x : SecondLabel) (s : State) : (setPendingLabel x s).fresh = s.fresh := rfl

/-! ### writeConfiguration -/

@[simp] theorem writeConfiguration_pending (g : Configuration) (s : State) : (writeConfiguration g s).pending = s.pending := rfl
@[simp] theorem writeConfiguration_straps (g : Configuration) (s : State) : (writeConfiguration g s).straps = s.straps := rfl
@[simp] theorem writeConfiguration_pins (g : Configuration) (s : State) : (writeConfiguration g s).pins = s.pins := rfl
@[simp] theorem writeConfiguration_fck (g : Configuration) (s : State) : (writeConfiguration g s).fck = s.fck := rfl
@[simp] theorem writeConfiguration_streams (g : Configuration) (s : State) : (writeConfiguration g s).streams = s.streams := rfl
@[simp] theorem writeConfiguration_sourceMap (g : Configuration) (s : State) : (writeConfiguration g s).sourceMap = s.sourceMap := rfl
@[simp] theorem writeConfiguration_alb (g : Configuration) (s : State) : (writeConfiguration g s).alb = s.alb := rfl
@[simp] theorem writeConfiguration_sem (g : Configuration) (s : State) : (writeConfiguration g s).sem = s.sem := rfl
@[simp] theorem writeConfiguration_ntq (g : Configuration) (s : State) : (writeConfiguration g s).ntq = s.ntq := rfl
@[simp] theorem writeConfiguration_lki (g : Configuration) (s : State) : (writeConfiguration g s).lki = s.lki := rfl
@[simp] theorem writeConfiguration_fresh (g : Configuration) (s : State) : (writeConfiguration g s).fresh = s.fresh := rfl

/-! ### armMarks -/

@[simp] theorem armMarks_pending (s : State) : (armMarks s).pending = s.pending := rfl
@[simp] theorem armMarks_straps (s : State) : (armMarks s).straps = s.straps := rfl
@[simp] theorem armMarks_pins (s : State) : (armMarks s).pins = s.pins := rfl
@[simp] theorem armMarks_tbu (s : State) : (armMarks s).tbu = s.tbu := rfl
@[simp] theorem armMarks_streams (s : State) : (armMarks s).streams = s.streams := rfl
@[simp] theorem armMarks_sourceMap (s : State) : (armMarks s).sourceMap = s.sourceMap := rfl
@[simp] theorem armMarks_sem (s : State) : (armMarks s).sem = s.sem := rfl
@[simp] theorem armMarks_ntq (s : State) : (armMarks s).ntq = s.ntq := rfl
@[simp] theorem armMarks_rqh (s : State) : (armMarks s).rqh = s.rqh := rfl
@[simp] theorem armMarks_fresh (s : State) : (armMarks s).fresh = s.fresh := rfl

/-! ### clearPartCounts -/

@[simp] theorem clearPartCounts_pending (s : State) : (clearPartCounts s).pending = s.pending := rfl
@[simp] theorem clearPartCounts_straps (s : State) : (clearPartCounts s).straps = s.straps := rfl
@[simp] theorem clearPartCounts_pins (s : State) : (clearPartCounts s).pins = s.pins := rfl
@[simp] theorem clearPartCounts_tbu (s : State) : (clearPartCounts s).tbu = s.tbu := rfl
@[simp] theorem clearPartCounts_streams (s : State) : (clearPartCounts s).streams = s.streams := rfl
@[simp] theorem clearPartCounts_sourceMap (s : State) : (clearPartCounts s).sourceMap = s.sourceMap := rfl
@[simp] theorem clearPartCounts_ntq (s : State) : (clearPartCounts s).ntq = s.ntq := rfl
@[simp] theorem clearPartCounts_rqh (s : State) : (clearPartCounts s).rqh = s.rqh := rfl
@[simp] theorem clearPartCounts_fresh (s : State) : (clearPartCounts s).fresh = s.fresh := rfl

/-! ### startRun -/

@[simp] theorem startRun_pending (t : Instant) (s : State) : (startRun t s).pending = s.pending := rfl
@[simp] theorem startRun_straps (t : Instant) (s : State) : (startRun t s).straps = s.straps := rfl
@[simp] theorem startRun_pins (t : Instant) (s : State) : (startRun t s).pins = s.pins := rfl
@[simp] theorem startRun_tbu (t : Instant) (s : State) : (startRun t s).tbu = s.tbu := rfl
@[simp] theorem startRun_fck (t : Instant) (s : State) : (startRun t s).fck = s.fck := rfl
@[simp] theorem startRun_streams (t : Instant) (s : State) : (startRun t s).streams = s.streams := rfl
@[simp] theorem startRun_sourceMap (t : Instant) (s : State) : (startRun t s).sourceMap = s.sourceMap := rfl
@[simp] theorem startRun_sem (t : Instant) (s : State) : (startRun t s).sem = s.sem := rfl
@[simp] theorem startRun_ntq (t : Instant) (s : State) : (startRun t s).ntq = s.ntq := rfl
@[simp] theorem startRun_lki (t : Instant) (s : State) : (startRun t s).lki = s.lki := rfl
@[simp] theorem startRun_rqh (t : Instant) (s : State) : (startRun t s).rqh = s.rqh := rfl
@[simp] theorem startRun_fresh (t : Instant) (s : State) : (startRun t s).fresh = s.fresh := rfl

/-! ### restartSecond -/

@[simp] theorem restartSecond_pending (s : State) : (restartSecond s).pending = s.pending := rfl
@[simp] theorem restartSecond_straps (s : State) : (restartSecond s).straps = s.straps := rfl
@[simp] theorem restartSecond_pins (s : State) : (restartSecond s).pins = s.pins := rfl
@[simp] theorem restartSecond_fck (s : State) : (restartSecond s).fck = s.fck := rfl
@[simp] theorem restartSecond_streams (s : State) : (restartSecond s).streams = s.streams := rfl
@[simp] theorem restartSecond_sourceMap (s : State) : (restartSecond s).sourceMap = s.sourceMap := rfl
@[simp] theorem restartSecond_alb (s : State) : (restartSecond s).alb = s.alb := rfl
@[simp] theorem restartSecond_sem (s : State) : (restartSecond s).sem = s.sem := rfl
@[simp] theorem restartSecond_ntq (s : State) : (restartSecond s).ntq = s.ntq := rfl
@[simp] theorem restartSecond_lki (s : State) : (restartSecond s).lki = s.lki := rfl
@[simp] theorem restartSecond_rqh (s : State) : (restartSecond s).rqh = s.rqh := rfl

/-! ### discardOutput -/

@[simp] theorem discardOutput_pending (s : State) : (discardOutput s).pending = s.pending := rfl
@[simp] theorem discardOutput_straps (s : State) : (discardOutput s).straps = s.straps := rfl
@[simp] theorem discardOutput_pins (s : State) : (discardOutput s).pins = s.pins := rfl
@[simp] theorem discardOutput_tbu (s : State) : (discardOutput s).tbu = s.tbu := rfl
@[simp] theorem discardOutput_fck (s : State) : (discardOutput s).fck = s.fck := rfl
@[simp] theorem discardOutput_streams (s : State) : (discardOutput s).streams = s.streams := rfl
@[simp] theorem discardOutput_sourceMap (s : State) : (discardOutput s).sourceMap = s.sourceMap := rfl
@[simp] theorem discardOutput_alb (s : State) : (discardOutput s).alb = s.alb := rfl
@[simp] theorem discardOutput_rqh (s : State) : (discardOutput s).rqh = s.rqh := rfl
@[simp] theorem discardOutput_fresh (s : State) : (discardOutput s).fresh = s.fresh := rfl

/-! ### resetBlocks -/

@[simp] theorem resetBlocks_pending (s : State) : (resetBlocks s).pending = s.pending := rfl
@[simp] theorem resetBlocks_straps (s : State) : (resetBlocks s).straps = s.straps := rfl
@[simp] theorem resetBlocks_pins (s : State) : (resetBlocks s).pins = s.pins := rfl
@[simp] theorem resetBlocks_tbu (s : State) : (resetBlocks s).tbu = s.tbu := rfl
@[simp] theorem resetBlocks_ntq (s : State) : (resetBlocks s).ntq = s.ntq := rfl
@[simp] theorem resetBlocks_lki (s : State) : (resetBlocks s).lki = s.lki := rfl
@[simp] theorem resetBlocks_rqh (s : State) : (resetBlocks s).rqh = s.rqh := rfl
@[simp] theorem resetBlocks_fresh (s : State) : (resetBlocks s).fresh = s.fresh := rfl

/-! ### flushInbound -/

@[simp] theorem flushInbound_pending (s : State) : (flushInbound s).pending = s.pending := rfl
@[simp] theorem flushInbound_straps (s : State) : (flushInbound s).straps = s.straps := rfl
@[simp] theorem flushInbound_pins (s : State) : (flushInbound s).pins = s.pins := rfl
@[simp] theorem flushInbound_tbu (s : State) : (flushInbound s).tbu = s.tbu := rfl
@[simp] theorem flushInbound_fck (s : State) : (flushInbound s).fck = s.fck := rfl
@[simp] theorem flushInbound_streams (s : State) : (flushInbound s).streams = s.streams := rfl
@[simp] theorem flushInbound_sourceMap (s : State) : (flushInbound s).sourceMap = s.sourceMap := rfl
@[simp] theorem flushInbound_alb (s : State) : (flushInbound s).alb = s.alb := rfl
@[simp] theorem flushInbound_sem (s : State) : (flushInbound s).sem = s.sem := rfl
@[simp] theorem flushInbound_ntq (s : State) : (flushInbound s).ntq = s.ntq := rfl
@[simp] theorem flushInbound_rqh (s : State) : (flushInbound s).rqh = s.rqh := rfl
@[simp] theorem flushInbound_fresh (s : State) : (flushInbound s).fresh = s.fresh := rfl

/-! ### endTickWait -/

@[simp] theorem endTickWait_pending (o : Option Instant) (s : State) : (endTickWait o s).pending = s.pending := rfl
@[simp] theorem endTickWait_straps (o : Option Instant) (s : State) : (endTickWait o s).straps = s.straps := rfl
@[simp] theorem endTickWait_pins (o : Option Instant) (s : State) : (endTickWait o s).pins = s.pins := rfl
@[simp] theorem endTickWait_fck (o : Option Instant) (s : State) : (endTickWait o s).fck = s.fck := rfl
@[simp] theorem endTickWait_streams (o : Option Instant) (s : State) : (endTickWait o s).streams = s.streams := rfl
@[simp] theorem endTickWait_sourceMap (o : Option Instant) (s : State) : (endTickWait o s).sourceMap = s.sourceMap := rfl
@[simp] theorem endTickWait_alb (o : Option Instant) (s : State) : (endTickWait o s).alb = s.alb := rfl
@[simp] theorem endTickWait_sem (o : Option Instant) (s : State) : (endTickWait o s).sem = s.sem := rfl
@[simp] theorem endTickWait_ntq (o : Option Instant) (s : State) : (endTickWait o s).ntq = s.ntq := rfl
@[simp] theorem endTickWait_lki (o : Option Instant) (s : State) : (endTickWait o s).lki = s.lki := rfl
@[simp] theorem endTickWait_rqh (o : Option Instant) (s : State) : (endTickWait o s).rqh = s.rqh := rfl
@[simp] theorem endTickWait_fresh (o : Option Instant) (s : State) : (endTickWait o s).fresh = s.fresh := rfl
@[simp] theorem endTickWait_tbu (o : Option Instant) (s : State) : (endTickWait o s).tbu =
    { s.tbu with tickWaits := s.tbu.tickWaits && decide (s.tbu.localTime = o) } := rfl

/-! ### post -/

@[simp] theorem post_pending (e : NoticeEvent) (s : State) : (post e s).pending = s.pending := by unfold post; split <;> rfl
@[simp] theorem post_straps (e : NoticeEvent) (s : State) : (post e s).straps = s.straps := by unfold post; split <;> rfl
@[simp] theorem post_pins (e : NoticeEvent) (s : State) : (post e s).pins = s.pins := by unfold post; split <;> rfl
@[simp] theorem post_tbu (e : NoticeEvent) (s : State) : (post e s).tbu = s.tbu := by unfold post; split <;> rfl
@[simp] theorem post_fck (e : NoticeEvent) (s : State) : (post e s).fck = s.fck := by unfold post; split <;> rfl
@[simp] theorem post_streams (e : NoticeEvent) (s : State) : (post e s).streams = s.streams := by unfold post; split <;> rfl
@[simp] theorem post_sourceMap (e : NoticeEvent) (s : State) : (post e s).sourceMap = s.sourceMap := by unfold post; split <;> rfl
@[simp] theorem post_alb (e : NoticeEvent) (s : State) : (post e s).alb = s.alb := by unfold post; split <;> rfl
@[simp] theorem post_sem (e : NoticeEvent) (s : State) : (post e s).sem = s.sem := by unfold post; split <;> rfl
@[simp] theorem post_lki (e : NoticeEvent) (s : State) : (post e s).lki = s.lki := by unfold post; split <;> rfl
@[simp] theorem post_rqh (e : NoticeEvent) (s : State) : (post e s).rqh = s.rqh := by unfold post; split <;> rfl
@[simp] theorem post_fresh (e : NoticeEvent) (s : State) : (post e s).fresh = s.fresh := by unfold post; split <;> rfl

/-! ### beginByte, beginAtEdge, startMessage, flowAtEnd, txCycle: only the link changes -/

theorem beginByte_lki_only (m : TxMessage) (s : State) : beginByte m s = { s with lki := (beginByte m s).lki } := by
  unfold beginByte; split <;> rfl

theorem flowAtEnd_lki_only (s : State) : flowAtEnd s = { s with lki := (flowAtEnd s).lki } := by
  unfold flowAtEnd; split <;> rfl

theorem beginAtEdge_lki_only (m : TxMessage) (s : State) : beginAtEdge m s = { s with lki := (beginAtEdge m s).lki } := by
  unfold beginAtEdge
  split
  · exact beginByte_lki_only m s
  · rfl

/-- On a falling edge of LTXC the next byte begins at once. -/
theorem beginAtEdge_edge {s : State} (h : s.lki.ltxcPhase = 0) (m : TxMessage) : beginAtEdge m s = beginByte m s := if_pos h

/-- Off the falling edge of LTXC the message waits. -/
theorem beginAtEdge_wait {s : State} (h : s.lki.ltxcPhase ≠ 0) (m : TxMessage) :
    beginAtEdge m s = { s with lki := { s.lki with tx := some m } } := if_neg h

theorem txAdvance_lki_only (e : Bool) (s : State) : txAdvance e s = { s with lki := (txAdvance e s).lki } := by
  unfold txAdvance
  split
  · rfl
  · split
    · rfl
    · split
      · rfl
      · split
        · exact beginByte_lki_only _ s
        · rfl

/-- No byte begins in the transmitter's part of a cycle unless LTXC falls on it. -/
theorem txAdvance_no_edge (s : State) :
    txAdvance false s =
      { s with lki := { s.lki with tx := s.lki.tx.map fun m => { m with left := m.left - 1 } } } := by
  unfold txAdvance
  cases h : s.lki.tx with
  | none =>
    change s = { s with lki := { s.lki with tx := none } }
    rw [← h]
  | some m =>
    simp only [Bool.not_false, Bool.or_true, if_true, Option.map_some]
    split
    · rfl
    · rw [show m.left - 1 = 0 by omega]

theorem txCycle_lki_only (s : State) : txCycle s = { s with lki := (txCycle s).lki } := by
  unfold txCycle
  exact txAdvance_lki_only _ _

@[simp] theorem beginByte_pending (m : TxMessage) (s : State) : (beginByte m s).pending = s.pending :=
  (congrArg State.pending (beginByte_lki_only m s) :)
@[simp] theorem beginAtEdge_pending (m : TxMessage) (s : State) : (beginAtEdge m s).pending = s.pending :=
  (congrArg State.pending (beginAtEdge_lki_only m s) :)
@[simp] theorem startMessage_pending (c : OutClass) (t : Byte) (p : List Byte) (s : State) :
    (startMessage c t p s).pending = s.pending := beginAtEdge_pending _ s
@[simp] theorem flowAtEnd_pending (s : State) : (flowAtEnd s).pending = s.pending :=
  (congrArg State.pending (flowAtEnd_lki_only s) :)
@[simp] theorem txCycle_pending (s : State) : (txCycle s).pending = s.pending :=
  (congrArg State.pending (txCycle_lki_only s) :)
@[simp] theorem beginByte_straps (m : TxMessage) (s : State) : (beginByte m s).straps = s.straps :=
  (congrArg State.straps (beginByte_lki_only m s) :)
@[simp] theorem beginAtEdge_straps (m : TxMessage) (s : State) : (beginAtEdge m s).straps = s.straps :=
  (congrArg State.straps (beginAtEdge_lki_only m s) :)
@[simp] theorem startMessage_straps (c : OutClass) (t : Byte) (p : List Byte) (s : State) :
    (startMessage c t p s).straps = s.straps := beginAtEdge_straps _ s
@[simp] theorem flowAtEnd_straps (s : State) : (flowAtEnd s).straps = s.straps :=
  (congrArg State.straps (flowAtEnd_lki_only s) :)
@[simp] theorem txCycle_straps (s : State) : (txCycle s).straps = s.straps :=
  (congrArg State.straps (txCycle_lki_only s) :)
@[simp] theorem beginByte_pins (m : TxMessage) (s : State) : (beginByte m s).pins = s.pins :=
  (congrArg State.pins (beginByte_lki_only m s) :)
@[simp] theorem beginAtEdge_pins (m : TxMessage) (s : State) : (beginAtEdge m s).pins = s.pins :=
  (congrArg State.pins (beginAtEdge_lki_only m s) :)
@[simp] theorem startMessage_pins (c : OutClass) (t : Byte) (p : List Byte) (s : State) :
    (startMessage c t p s).pins = s.pins := beginAtEdge_pins _ s
@[simp] theorem flowAtEnd_pins (s : State) : (flowAtEnd s).pins = s.pins :=
  (congrArg State.pins (flowAtEnd_lki_only s) :)
@[simp] theorem txCycle_pins (s : State) : (txCycle s).pins = s.pins :=
  (congrArg State.pins (txCycle_lki_only s) :)
@[simp] theorem beginByte_tbu (m : TxMessage) (s : State) : (beginByte m s).tbu = s.tbu :=
  (congrArg State.tbu (beginByte_lki_only m s) :)
@[simp] theorem beginAtEdge_tbu (m : TxMessage) (s : State) : (beginAtEdge m s).tbu = s.tbu :=
  (congrArg State.tbu (beginAtEdge_lki_only m s) :)
@[simp] theorem startMessage_tbu (c : OutClass) (t : Byte) (p : List Byte) (s : State) :
    (startMessage c t p s).tbu = s.tbu := beginAtEdge_tbu _ s
@[simp] theorem flowAtEnd_tbu (s : State) : (flowAtEnd s).tbu = s.tbu :=
  (congrArg State.tbu (flowAtEnd_lki_only s) :)
@[simp] theorem txCycle_tbu (s : State) : (txCycle s).tbu = s.tbu :=
  (congrArg State.tbu (txCycle_lki_only s) :)
@[simp] theorem beginByte_fck (m : TxMessage) (s : State) : (beginByte m s).fck = s.fck :=
  (congrArg State.fck (beginByte_lki_only m s) :)
@[simp] theorem beginAtEdge_fck (m : TxMessage) (s : State) : (beginAtEdge m s).fck = s.fck :=
  (congrArg State.fck (beginAtEdge_lki_only m s) :)
@[simp] theorem startMessage_fck (c : OutClass) (t : Byte) (p : List Byte) (s : State) :
    (startMessage c t p s).fck = s.fck := beginAtEdge_fck _ s
@[simp] theorem flowAtEnd_fck (s : State) : (flowAtEnd s).fck = s.fck :=
  (congrArg State.fck (flowAtEnd_lki_only s) :)
@[simp] theorem txCycle_fck (s : State) : (txCycle s).fck = s.fck :=
  (congrArg State.fck (txCycle_lki_only s) :)
@[simp] theorem beginByte_streams (m : TxMessage) (s : State) : (beginByte m s).streams = s.streams :=
  (congrArg State.streams (beginByte_lki_only m s) :)
@[simp] theorem beginAtEdge_streams (m : TxMessage) (s : State) : (beginAtEdge m s).streams = s.streams :=
  (congrArg State.streams (beginAtEdge_lki_only m s) :)
@[simp] theorem startMessage_streams (c : OutClass) (t : Byte) (p : List Byte) (s : State) :
    (startMessage c t p s).streams = s.streams := beginAtEdge_streams _ s
@[simp] theorem flowAtEnd_streams (s : State) : (flowAtEnd s).streams = s.streams :=
  (congrArg State.streams (flowAtEnd_lki_only s) :)
@[simp] theorem txCycle_streams (s : State) : (txCycle s).streams = s.streams :=
  (congrArg State.streams (txCycle_lki_only s) :)
@[simp] theorem beginByte_sourceMap (m : TxMessage) (s : State) : (beginByte m s).sourceMap = s.sourceMap :=
  (congrArg State.sourceMap (beginByte_lki_only m s) :)
@[simp] theorem beginAtEdge_sourceMap (m : TxMessage) (s : State) : (beginAtEdge m s).sourceMap = s.sourceMap :=
  (congrArg State.sourceMap (beginAtEdge_lki_only m s) :)
@[simp] theorem startMessage_sourceMap (c : OutClass) (t : Byte) (p : List Byte) (s : State) :
    (startMessage c t p s).sourceMap = s.sourceMap := beginAtEdge_sourceMap _ s
@[simp] theorem flowAtEnd_sourceMap (s : State) : (flowAtEnd s).sourceMap = s.sourceMap :=
  (congrArg State.sourceMap (flowAtEnd_lki_only s) :)
@[simp] theorem txCycle_sourceMap (s : State) : (txCycle s).sourceMap = s.sourceMap :=
  (congrArg State.sourceMap (txCycle_lki_only s) :)
@[simp] theorem beginByte_alb (m : TxMessage) (s : State) : (beginByte m s).alb = s.alb :=
  (congrArg State.alb (beginByte_lki_only m s) :)
@[simp] theorem beginAtEdge_alb (m : TxMessage) (s : State) : (beginAtEdge m s).alb = s.alb :=
  (congrArg State.alb (beginAtEdge_lki_only m s) :)
@[simp] theorem startMessage_alb (c : OutClass) (t : Byte) (p : List Byte) (s : State) :
    (startMessage c t p s).alb = s.alb := beginAtEdge_alb _ s
@[simp] theorem flowAtEnd_alb (s : State) : (flowAtEnd s).alb = s.alb :=
  (congrArg State.alb (flowAtEnd_lki_only s) :)
@[simp] theorem txCycle_alb (s : State) : (txCycle s).alb = s.alb :=
  (congrArg State.alb (txCycle_lki_only s) :)
@[simp] theorem beginByte_sem (m : TxMessage) (s : State) : (beginByte m s).sem = s.sem :=
  (congrArg State.sem (beginByte_lki_only m s) :)
@[simp] theorem beginAtEdge_sem (m : TxMessage) (s : State) : (beginAtEdge m s).sem = s.sem :=
  (congrArg State.sem (beginAtEdge_lki_only m s) :)
@[simp] theorem startMessage_sem (c : OutClass) (t : Byte) (p : List Byte) (s : State) :
    (startMessage c t p s).sem = s.sem := beginAtEdge_sem _ s
@[simp] theorem flowAtEnd_sem (s : State) : (flowAtEnd s).sem = s.sem :=
  (congrArg State.sem (flowAtEnd_lki_only s) :)
@[simp] theorem txCycle_sem (s : State) : (txCycle s).sem = s.sem :=
  (congrArg State.sem (txCycle_lki_only s) :)
@[simp] theorem beginByte_ntq (m : TxMessage) (s : State) : (beginByte m s).ntq = s.ntq :=
  (congrArg State.ntq (beginByte_lki_only m s) :)
@[simp] theorem beginAtEdge_ntq (m : TxMessage) (s : State) : (beginAtEdge m s).ntq = s.ntq :=
  (congrArg State.ntq (beginAtEdge_lki_only m s) :)
@[simp] theorem startMessage_ntq (c : OutClass) (t : Byte) (p : List Byte) (s : State) :
    (startMessage c t p s).ntq = s.ntq := beginAtEdge_ntq _ s
@[simp] theorem flowAtEnd_ntq (s : State) : (flowAtEnd s).ntq = s.ntq :=
  (congrArg State.ntq (flowAtEnd_lki_only s) :)
@[simp] theorem txCycle_ntq (s : State) : (txCycle s).ntq = s.ntq :=
  (congrArg State.ntq (txCycle_lki_only s) :)
@[simp] theorem beginByte_rqh (m : TxMessage) (s : State) : (beginByte m s).rqh = s.rqh :=
  (congrArg State.rqh (beginByte_lki_only m s) :)
@[simp] theorem beginAtEdge_rqh (m : TxMessage) (s : State) : (beginAtEdge m s).rqh = s.rqh :=
  (congrArg State.rqh (beginAtEdge_lki_only m s) :)
@[simp] theorem startMessage_rqh (c : OutClass) (t : Byte) (p : List Byte) (s : State) :
    (startMessage c t p s).rqh = s.rqh := beginAtEdge_rqh _ s
@[simp] theorem flowAtEnd_rqh (s : State) : (flowAtEnd s).rqh = s.rqh :=
  (congrArg State.rqh (flowAtEnd_lki_only s) :)
@[simp] theorem txCycle_rqh (s : State) : (txCycle s).rqh = s.rqh :=
  (congrArg State.rqh (txCycle_lki_only s) :)
@[simp] theorem beginByte_fresh (m : TxMessage) (s : State) : (beginByte m s).fresh = s.fresh :=
  (congrArg State.fresh (beginByte_lki_only m s) :)
@[simp] theorem beginAtEdge_fresh (m : TxMessage) (s : State) : (beginAtEdge m s).fresh = s.fresh :=
  (congrArg State.fresh (beginAtEdge_lki_only m s) :)
@[simp] theorem startMessage_fresh (c : OutClass) (t : Byte) (p : List Byte) (s : State) :
    (startMessage c t p s).fresh = s.fresh := beginAtEdge_fresh _ s
@[simp] theorem flowAtEnd_fresh (s : State) : (flowAtEnd s).fresh = s.fresh :=
  (congrArg State.fresh (flowAtEnd_lki_only s) :)
@[simp] theorem txCycle_fresh (s : State) : (txCycle s).fresh = s.fresh :=
  (congrArg State.fresh (txCycle_lki_only s) :)

end Sys2Proof.Machine
end

