-- ==== Sys2Proof/Laws/Frames.lean ====
section
/-! SUPPORT. What each shared operation can touch, said once: a reading `f` of the state that ignores the fields an
operation may change reads the same after it. A prover cites these with a projection, for example
`bufferTick_frame (f := State.tbu) (fun _ _ _ => rfl) l s`. -/

namespace Sys2Proof.Machine

universe u
variable {α : Sort u} {f : State → α}

/-- `f` reads neither the Alignment Buffer nor the Set Emitter. -/
def IgnoresBuffer (f : State → α) : Prop := ∀ s a e, f { s with alb := a, sem := e } = f s

/-- `f` reads none of the Alignment Buffer, the Set Emitter, the Notice Queue, the stream records. -/
def IgnoresStreams (f : State → α) : Prop :=
  ∀ s a e q st, f { s with alb := a, sem := e, ntq := q, streams := st } = f s

/-- `f` reads none of these and not the Frame Checker. -/
def IgnoresFrames (f : State → α) : Prop :=
  ∀ s a e q st k, f { s with alb := a, sem := e, ntq := q, streams := st, fck := k } = f s

/-- `f` reads none of the Alignment Buffer, the Set Emitter, the link, the Request Handler. -/
def IgnoresDrain (f : State → α) : Prop :=
  ∀ s a e l q, f { s with alb := a, sem := e, lki := l, rqh := q } = f s

theorem IgnoresStreams.buffer (h : IgnoresStreams f) : IgnoresBuffer f := fun s a e => h s a e s.ntq s.streams

theorem IgnoresFrames.streams (h : IgnoresFrames f) : IgnoresStreams f := fun s a e q st => h s a e q st s.fck

theorem IgnoresDrain.buffer (h : IgnoresDrain f) : IgnoresBuffer f := fun s a e => h s a e s.lki s.rqh

/-! ### The buffer alone -/

theorem eachSlot_frame {g : Nat → State → State} (hg : ∀ p s, f (g p s) = f s) (s : State) : f (eachSlot g s) = f s := by
  have h (l : List Nat) (t : State) : f (l.foldl (fun t k => g (s.winPos k) t) t) = f t := by
    induction l generalizing t with
    | nil => rfl
    | cons k l ih => exact (ih _).trans (hg _ _)
  exact h _ s

theorem offerBase_frame (hf : IgnoresBuffer f) (s : State) : f (offerBase s) = f s := by
  unfold offerBase
  split
  · exact hf s s.alb _
  · rfl

theorem sealSlot_frame (hf : IgnoresBuffer f) (c : SealCause) (p : Nat) (s : State) : f (sealSlot c p s) = f s := by
  unfold sealSlot
  split
  · dsimp only
    split
    · exact (offerBase_frame hf _).trans (hf s _ s.sem)
    · exact hf s _ s.sem
  · rfl
  · rfl

theorem sealIfComplete_frame (hf : IgnoresBuffer f) (p : Nat) (s : State) : f (sealIfComplete p s) = f s := by
  unfold sealIfComplete
  split
  · split
    · exact sealSlot_frame hf _ _ _
    · rfl
  · rfl
  · rfl

theorem openSlot_frame (hf : IgnoresBuffer f) (p : Nat) (l : Label) (c : OpenCause) (e : List Nat) (s : State) :
    f (openSlot p l c e s) = f s := by
  unfold openSlot
  dsimp only
  split
  · exact (sealSlot_frame hf _ _ _).trans (hf s _ s.sem)
  · exact hf s _ s.sem

theorem openIfVacant_frame (hf : IgnoresBuffer f) (p : Nat) (l : Label) (c : OpenCause) (s : State) :
    f (openIfVacant p l c s) = f s := by
  unfold openIfVacant
  split
  · exact openSlot_frame hf _ _ _ _ _
  · rfl
  · rfl

theorem openThrough_frame (hf : IgnoresBuffer f) (x : Label) (n k : Nat) (l : Label) (s : State) :
    f (openThrough x n k l s) = f s := by
  induction n generalizing k l s with
  | zero => rfl
  | succ n ih =>
    unfold openThrough
    split
    · rfl
    · exact (ih _ _ _).trans (openIfVacant_frame hf _ _ _ _)

theorem bufferTick_frame (hf : IgnoresBuffer f) (l : Label) (s : State) : f (bufferTick l s) = f s := by
  unfold bufferTick
  split
  · split
    · rfl
    · exact (openThrough_frame hf _ _ _ _ _).trans (hf s _ s.sem)
  · rfl

theorem sealIfDue_frame (hf : IgnoresBuffer f) (p : Nat) (s : State) : f (sealIfDue p s) = f s := by
  unfold sealIfDue
  split
  · split
    · exact sealSlot_frame hf _ _ _
    · rfl
  · rfl
  · rfl

theorem sealDue_frame (hf : IgnoresBuffer f) (s : State) : f (sealDue s) = f s := eachSlot_frame (sealIfDue_frame hf) s

theorem unlockAt_frame (hf : IgnoresBuffer f) (n p : Nat) (s : State) : f (unlockAt n p s) = f s := by
  unfold unlockAt
  split
  · split
    · exact (sealIfComplete_frame hf _ _).trans (hf s _ s.sem)
    · rfl
  · rfl
  · rfl

theorem unlockReport_frame (hf : IgnoresBuffer f) (n : Nat) (s : State) : f (unlockReport n s) = f s :=
  eachSlot_frame (unlockAt_frame hf n) s

theorem releaseAt_frame (hf : IgnoresBuffer f) (n p : Nat) (s : State) : f (releaseAt n p s) = f s := by
  unfold releaseAt
  split
  · split
    · exact hf s _ s.sem
    · rfl
  · rfl
  · rfl

theorem disableReport_frame (hf : IgnoresBuffer f) (n : Nat) (s : State) : f (disableReport n s) = f s :=
  (unlockReport_frame hf n _).trans (eachSlot_frame (releaseAt_frame hf n) s)

theorem freeBaseSlot_frame (hf : IgnoresBuffer f) (s : State) : f (freeBaseSlot s) = f s := by
  unfold freeBaseSlot
  split
  · exact hf s _ s.sem
  · exact hf s _ s.sem
  · rfl

theorem exposeLabel_frame (hf : IgnoresBuffer f) (s : State) : f (exposeLabel s) = f s := by
  unfold exposeLabel
  split
  · dsimp only
    split
    · rfl
    · exact openIfVacant_frame hf _ _ _ _
  · rfl

theorem unlockIfWasLocked_frame (hf : IgnoresBuffer f) (n : Nat) (x : StreamState) (s : State) :
    f (unlockIfWasLocked n x s) = f s := by
  unfold unlockIfWasLocked
  split
  · exact unlockReport_frame hf n s
  · rfl

/-! ### The drain -/

theorem endDrain_frame (hf : IgnoresDrain f) (s : State) : f (endDrain s) = f s := by
  unfold endDrain
  dsimp only
  split
  · exact hf s _ s.sem s.lki s.rqh
  · exact hf s _ s.sem _ _

theorem drainOn_frame (hf : IgnoresDrain f) (n : Nat) (s : State) : f (drainOn n s) = f s := by
  induction n generalizing s with
  | zero => rfl
  | succ n ih =>
    unfold drainOn
    split
    · split
      · exact (ih _).trans (hf s _ s.sem s.lki s.rqh)
      · exact offerBase_frame hf.buffer s
      · rfl
    · exact endDrain_frame hf s

theorem stopRun_frame (hf : IgnoresDrain f) (tag : Byte) (s : State) : f (stopRun tag s) = f s :=
  (drainOn_frame hf _ _).trans
    ((eachSlot_frame (sealSlot_frame hf.buffer .drain) _).trans (hf s _ s.sem s.lki _))

theorem bufferEmissionEnd_frame (hf : IgnoresDrain f) (s : State) : f (bufferEmissionEnd s) = f s := by
  unfold bufferEmissionEnd
  dsimp only
  have h := freeBaseSlot_frame hf.buffer s
  have h' := hf.buffer
  split
  · exact (h' (freeBaseSlot s) _ (freeBaseSlot s).sem).trans h
  · exact ((offerBase_frame h' _).trans (exposeLabel_frame h' _)).trans ((h' (freeBaseSlot s) _ (freeBaseSlot s).sem).trans h)
  · exact (drainOn_frame hf _ _).trans ((h' (freeBaseSlot s) _ (freeBaseSlot s).sem).trans h)

theorem endEmission_frame (hf : IgnoresDrain f) (s : State) : f (endEmission s) = f s :=
  (bufferEmissionEnd_frame hf _).trans (hf.buffer s s.alb _)

/-! ### Field frames -/

theorem post_frame (hf : IgnoresStreams f) (e : NoticeEvent) (s : State) : f (post e s) = f s := by
  unfold post
  split
  · exact hf s s.alb s.sem _ s.streams
  · exact hf s s.alb s.sem _ s.streams

theorem modStream_frame (hf : IgnoresStreams f) (n : Nat) (g : StreamRec → StreamRec) (s : State) :
    f (s.modStream n g) = f s := hf s s.alb s.sem s.ntq _

theorem count_frame (hf : IgnoresStreams f) (n : Nat) (g : StreamCounters → StreamCounters) (s : State) :
    f (s.count n g) = f s := modStream_frame hf n _ s

theorem sealPressure_frame (hf : IgnoresStreams f) (n : Nat) (c : SealCause) (s : State) : f (sealPressure n c s) = f s := by
  unfold sealPressure
  split
  · exact (hf.buffer _ _ _).trans (post_frame hf _ s)
  · rfl

theorem sealUnderPressure_frame (hf : IgnoresStreams f) (n : Nat) (c : SealCause) (p : Nat) (s : State) :
    f (sealUnderPressure n c p s) = f s := by
  unfold sealUnderPressure
  split
  · exact (sealPressure_frame hf _ _ _).trans (sealSlot_frame hf.buffer _ _ _)
  · rfl

theorem horizonSeal_frame (hf : IgnoresStreams f) (n k : Nat) (l : Label) (s : State) : f (horizonSeal n k l s) = f s := by
  unfold horizonSeal
  dsimp only
  refine (sealUnderPressure_frame hf _ _ _ _).trans ?_
  split
  · exact openSlot_frame hf.buffer _ _ _ _ _
  · rfl
  · rfl

theorem horizonSeals_frame (hf : IgnoresStreams f) (x n k : Nat) (l : Label) (s : State) :
    f (horizonSeals x n k l s) = f s := by
  induction n generalizing k l s with
  | zero => rfl
  | succ n ih => exact (ih _ _ _).trans (horizonSeal_frame hf _ _ _ _)

theorem lateCell_frame (hf : IgnoresStreams f) (k : LateKind) (l : Label) (x : Cell) (s : State) :
    f (lateCell k l x s) = f s := by
  unfold lateCell
  dsimp only
  split
  · exact count_frame hf _ _ s
  · split
    · exact (hf.buffer _ _ _).trans (count_frame hf _ _ s)
    · exact (count_frame hf _ _ _).trans (count_frame hf _ _ s)

theorem refuseDuplicate_frame (hf : IgnoresStreams f) (x : Cell) (s : State) : f (refuseDuplicate x s) = f s :=
  (modStream_frame hf _ _ _).trans (count_frame hf _ _ s)

theorem storeCell_frame (hf : IgnoresStreams f) (p : Nat) (d : SlotData) (m : Nat) (r : List Nat) (x : Cell) (s : State) :
    f (storeCell p d m r x s) = f s := by
  unfold storeCell
  dsimp only
  have h (t : State) : f ((t.count x.stream fun c => { c with placed := satInc c.placed }).modStream x.stream fun r =>
      r.modPath x.path fun p => { p with lead := satInc p.lead }) = f t :=
    (modStream_frame hf _ _ _).trans (count_frame hf _ _ t)
  split
  · exact (sealIfComplete_frame hf.buffer _ _).trans ((h _).trans (hf.buffer s _ s.sem))
  · exact (h _).trans (hf.buffer s _ s.sem)

theorem refusePoolFull_frame (hf : IgnoresStreams f) (x : Cell) (s : State) : f (refusePoolFull x s) = f s := by
  unfold refusePoolFull
  dsimp only
  split
  · exact (sealUnderPressure_frame hf _ _ _ _).trans (count_frame hf _ _ s)
  · exact count_frame hf _ _ s

theorem placeInSlot_frame (hf : IgnoresStreams f) (p : Nat) (l : Label) (x : Cell) (s : State) :
    f (placeInSlot p l x s) = f s := by
  unfold placeInSlot
  split
  · rfl
  · split
    · exact refuseDuplicate_frame hf x s
    · exact lateCell_frame hf _ _ _ _
  · split
    · exact refuseDuplicate_frame hf x s
    · split
      · exact refusePoolFull_frame hf x s
      · exact storeCell_frame hf _ _ _ _ _ _

theorem refuseAhead_frame (hf : IgnoresStreams f) (x : Cell) (d : Nat) (b : Label) (s : State) :
    f (refuseAhead x d b s) = f s := (horizonSeals_frame hf _ _ _ _ _).trans (count_frame hf _ _ s)

theorem placeCell_frame (hf : IgnoresStreams f) (l : Label) (x : Cell) (s : State) : f (placeCell l x s) = f s := by
  unfold placeCell
  split
  · split
    · exact count_frame hf _ _ s
    · split
      · exact lateCell_frame hf _ _ _ _
      · dsimp only
        split
        · exact refuseAhead_frame hf _ _ _ _
        · exact (placeInSlot_frame hf _ _ _ _).trans (openIfVacant_frame hf.buffer _ _ _ _)
  · rfl

theorem changeState_frame (hf : IgnoresStreams f) (n : Nat) (x : StreamState) (c : StreamCause) (s : State) :
    f (changeState n x c s) = f s := (post_frame hf _ _).trans (modStream_frame hf _ _ s)

theorem streamError_frame (hf : IgnoresStreams f) (n : Nat) (g : StreamCounters → StreamCounters) (s : State) :
    f (streamError n g s) = f s := by
  unfold streamError
  dsimp only
  have h : f ((s.count n g).modStream n fun r => { r with errCount := min (r.errCount + 1) 15, goodCount := 0 }) = f s :=
    (modStream_frame hf _ _ _).trans (count_frame hf _ _ s)
  split
  · exact (unlockIfWasLocked_frame hf.buffer _ _ _).trans
      ((changeState_frame hf _ _ _ _).trans ((count_frame hf _ _ _).trans h))
  · exact h

theorem refreshPath_frame (hf : IgnoresStreams f) (n : Nat) (p : Path) (now : Uptime) (s : State) :
    f (refreshPath n p now s) = f s := by
  unfold refreshPath
  dsimp only
  split
  · exact modStream_frame hf _ _ s
  · exact (post_frame hf _ _).trans (modStream_frame hf _ _ s)

theorem acceptInstant_frame (hf : IgnoresStreams f) (n : Nat) (x : Snapped) (s : State) : f (acceptInstant n x s) = f s := by
  unfold acceptInstant
  split
  · exact modStream_frame hf _ _ s
  · rfl

theorem goodFrameState_frame (hf : IgnoresStreams f) (n : Nat) (s : State) : f (goodFrameState n s) = f s := by
  have h : f (s.modStream n fun r => { r with errCount := 0 }) = f s := modStream_frame hf _ _ s
  unfold goodFrameState
  dsimp only
  split
  · exact (changeState_frame hf _ _ _ _).trans ((modStream_frame hf _ _ _).trans h)
  · exact (changeState_frame hf _ _ _ _).trans ((modStream_frame hf _ _ _).trans h)
  · split
    · exact (modStream_frame hf _ _ _).trans h
    · exact (changeState_frame hf _ _ _ _).trans ((modStream_frame hf _ _ _).trans h)
  · exact h
  · exact h
  · exact h

theorem goodFrame_frame (hf : IgnoresStreams f) (x : FrameInHand) (y : Snapped) (s : State) :
    f (goodFrame x y s) = f s := by
  have h (t : State) : f (goodFrameState x.stream (acceptInstant x.stream y (refreshPath x.stream x.path x.reading.uptime t))) = f t :=
    (goodFrameState_frame hf _ _).trans ((acceptInstant_frame hf _ _ _).trans (refreshPath_frame hf _ _ _ t))
  unfold goodFrame
  dsimp only
  split
  · exact (h _).trans (count_frame hf _ _ s)
  · exact (modStream_frame hf _ _ _).trans ((h _).trans (count_frame hf _ _ s))

theorem deliver_frame (hf : IgnoresStreams f) (x : FrameInHand) (y : Snapped) (s : State) : f (deliver x y s) = f s := by
  unfold deliver
  dsimp only
  split
  · exact count_frame hf _ _ s
  · split
    · exact placeCell_frame hf _ _ s
    · exact count_frame hf _ _ s

theorem afterLabel_frame (hf : IgnoresFrames f) (x : FrameInHand) (s : State) : f (afterLabel x s) = f s := by
  have h := hf.streams
  unfold afterLabel
  dsimp only
  split
  · exact streamError_frame h _ _ s
  · split
    · exact (streamError_frame h _ _ _).trans (modStream_frame h _ _ s)
    · split
      · exact streamError_frame h _ _ s
      · have hk (y : Snapped) (t : State) : f (keepGood x y t) = f t := hf t t.alb t.sem t.ntq t.streams _
        exact (hk _ _).trans (goodFrame_frame h _ _ s)

theorem dataFrame_frame (hf : IgnoresFrames f) (x : FrameInHand) (s : State) : f (dataFrame x s) = f s := by
  unfold dataFrame
  split
  · exact streamError_frame hf.streams _ _ s
  · split
    · exact streamError_frame hf.streams _ _ s
    · exact streamError_frame hf.streams _ _ s
    · exact afterLabel_frame hf _ s

theorem pathDownIfDue_frame (hf : IgnoresStreams f) (n : Nat) (p : Path) (s : State) : f (pathDownIfDue n p s) = f s := by
  unfold pathDownIfDue pathDown
  split
  · exact (post_frame hf _ _).trans (modStream_frame hf _ _ s)
  · rfl

theorem layoutFrame_frame (hf : IgnoresStreams f) (n : Nat) (l : Layout) (m : Nat) (s : State) :
    f (layoutFrame n l m s) = f s := by
  have hl (t : State) : f (learnLayout n l t) = f t := (count_frame hf _ _ _).trans (modStream_frame hf _ _ t)
  unfold layoutFrame
  generalize (if s.straps.nomf then 60 else 50) = nominal
  split
  · exact count_frame hf _ _ s
  · split
    · exact (changeState_frame hf _ _ _ _).trans ((post_frame hf _ _).trans (hl s))
    · split
      · exact count_frame hf _ _ s
      · split
        · unfold replaceLayout
          dsimp only
          refine (unlockIfWasLocked_frame hf.buffer _ _ _).trans ?_
          have h : f (post (.layoutChange n l.rateCode) (pathDownIfDue n .b (pathDownIfDue n .a
              ((learnLayout n l s).modStream n fun r => { r with goodCount := 0 })))) = f s :=
            (post_frame hf _ _).trans ((pathDownIfDue_frame hf _ _ _).trans ((pathDownIfDue_frame hf _ _ _).trans
              ((modStream_frame hf _ _ _).trans (hl s))))
          split
          · exact h
          · exact (changeState_frame hf _ _ _ _).trans h
        · dsimp only
          split
          · exact (post_frame hf _ _).trans ((modStream_frame hf _ _ _).trans (count_frame hf _ _ s))
          · exact count_frame hf _ _ s

theorem expireSilence_frame (hf : IgnoresStreams f) (n : Nat) (p : Path) (s : State) : f (expireSilence n p s) = f s := by
  have h : f (pathDown n p s) = f s := (post_frame hf _ _).trans (modStream_frame hf _ _ s)
  unfold expireSilence
  dsimp only
  split
  · exact (unlockIfWasLocked_frame hf.buffer _ _ _).trans ((changeState_frame hf _ _ _ _).trans
      ((count_frame hf _ _ _).trans ((modStream_frame hf _ _ _).trans h)))
  · exact h

theorem checkFrame_frame (hf : IgnoresFrames f) (k : Reading) (tag : Byte) (b : List Byte) (s : State) :
    f (checkFrame k tag b s) = f s := by
  have h := hf.streams
  have hk (t : State) (k : Fck) : f { t with fck := k } = f t := hf t t.alb t.sem t.ntq t.streams k
  unfold checkFrame
  split
  · split
    · split
      · exact hk s _
      · unfold sourceStep
        split
        · unfold streamStep
          dsimp only
          split
          · unfold layoutStep
            dsimp only
            split
            · exact layoutFrame_frame h _ _ _ s
            · exact streamError_frame h _ _ s
          · split
            · exact count_frame h _ _ s
            · exact dataFrame_frame hf _ s
        · dsimp only
          split
          · exact (post_frame h _ _).trans (hk s _)
          · exact hk s _
    · exact hk s _
  · exact hk s _

/-! ### The frame in hand (02 R23, R40) -/

theorem State.headFrame_congr {s t : State} (h : t.lki = s.lki) : t.headFrame = s.headFrame := by
  unfold State.headFrame
  rw [h]

theorem checkFrame_lki (k : Reading) (tag : Byte) (b : List Byte) (s : State) : (checkFrame k tag b s).lki = s.lki :=
  checkFrame_frame (f := State.lki) (fun _ _ _ _ _ _ => rfl) k tag b s

theorem deliver_fck (h : FrameInHand) (x : Snapped) (s : State) : (deliver h x s).fck = s.fck :=
  deliver_frame (f := State.fck) (fun _ _ _ _ _ => rfl) h x s

theorem keepGood_inHand (h : FrameInHand) (x : Snapped) (s : State) :
    (keepGood h x s).fck.inHand = some (.good h x) := rfl

/-- Steps 8 to 11: a stream error, or the good frame kept in hand. -/
theorem afterLabel_cases (hf : IgnoresStreams f) (h : FrameInHand) (s : State) :
    f (afterLabel h s) = f s ∨ ∃ x, afterLabel h s = keepGood h x (goodFrame h x s) := by
  unfold afterLabel
  dsimp only
  split
  · exact .inl (streamError_frame hf _ _ s)
  · split
    · exact .inl ((streamError_frame hf _ _ _).trans (modStream_frame hf _ _ s))
    · split
      · exact .inl (streamError_frame hf _ _ s)
      · exact .inr ⟨_, rfl⟩

/-- Steps 1 to 11 leave the frame good and in hand, or leave what is in hand as it was. -/
theorem checkFrame_inHand (k : Reading) (tag : Byte) (b : List Byte) (s : State) :
    (checkFrame k tag b s).fck.inHand = s.fck.inHand ∨ ∃ h x, (checkFrame k tag b s).fck.inHand = some (.good h x) := by
  have hf : IgnoresStreams State.fck := fun _ _ _ _ _ => rfl
  unfold checkFrame
  split
  · split
    · split
      · exact .inl rfl
      · unfold sourceStep
        split
        · unfold streamStep
          dsimp only
          split
          · unfold layoutStep
            dsimp only
            split
            · exact .inl (congrArg _ (layoutFrame_frame hf _ _ _ s))
            · exact .inl (congrArg _ (streamError_frame hf _ _ s))
          · split
            · exact .inl rfl
            · unfold dataFrame
              split
              · exact .inl (congrArg _ (streamError_frame hf _ _ s))
              · split
                · exact .inl (congrArg _ (streamError_frame hf _ _ s))
                · exact .inl (congrArg _ (streamError_frame hf _ _ s))
                · exact (afterLabel_cases hf _ s).imp (congrArg _) fun ⟨x, hx⟩ => ⟨_, x, hx ▸ keepGood_inHand _ _ _⟩
        · dsimp only
          split
          · exact .inl ((congrArg Fck.inHand (post_frame hf _ _)).trans rfl)
          · exact .inl rfl
    · exact .inl rfl
  · exact .inl rfl

/-- What steps 1 to 11 come to: the disposition, with the head freed, or the good frame in hand with the head in place. -/
theorem examineFrame_cases {s : State} {tag : Byte} {b : List Byte} (k : Reading) (h : s.headFrame = some (tag, b)) :
    ((examineFrame k s).fck.inHand = none ∧ examineFrame k s = (checkFrame k tag b (s.setFrame none)).freeHead) ∨
      ∃ g x, (examineFrame k s).fck.inHand = some (.good g x) ∧
        examineFrame k s = checkFrame k tag b (s.setFrame none) := by
  simp only [examineFrame, h, freeIfDone]
  rcases checkFrame_inHand k tag b (s.setFrame none) with hc | ⟨g, x, hc⟩
  · simp [hc]
  · simp [hc]

/-- Steps 12 to 14 leave nothing in hand. -/
theorem finishFrame_inHand {s : State} {y : Byte × List Byte} (g : FrameInHand) (x : Snapped) (h : s.headFrame = some y) :
    (finishFrame g x s).fck.inHand = none := by
  simp only [finishFrame, h, State.freeHead_fck, deliver_fck, State.setFrame_fck]

theorem goOn_done {s : State} (h : s.fck.inHand = none) : goOn s = s := by simp [goOn, h]

theorem goOn_on {s : State} {w : FrameWork} (h : s.fck.inHand = some w) : goOn s = advanceFrame s := by simp [goOn, h]

/-- FIELD_FRAME on a frame just taken is FIELD_FRAME on the frame at the head. -/
theorem takeFrame_readFrame {s : State} {y : Byte × List Byte} (h : s.headFrame = some y) (hn : s.fck.inHand = none) :
    takeFrame (readFrame s) = takeFrame s := by
  obtain ⟨tag, b⟩ := y
  have ha : advanceFrame s = readFrame s := by simp only [advanceFrame, hn]
  have hr : readFrame s = s.setFrame (some (.taken ⟨s.tbu.uptime, s.tbu.localTime⟩)) := by simp only [readFrame, h]
  generalize (⟨s.tbu.uptime, s.tbu.localTime⟩ : Reading) = k at hr
  have hk : (readFrame s).fck.inHand = some (.taken k) := by rw [hr]; rfl
  have hh : (readFrame s).headFrame = some (tag, b) := by rw [hr]; exact h
  have hx : advanceFrame (readFrame s) = examineFrame k (readFrame s) := by simp only [advanceFrame, hk]
  unfold takeFrame
  rw [ha, goOn_on hk, hx]
  rcases examineFrame_cases k hh with ⟨hd, -⟩ | ⟨g, x, hg, he⟩
  · rw [goOn_done hd, goOn_done hd]
  · have hf : (examineFrame k (readFrame s)).headFrame = some (tag, b) := by
      rw [he, State.headFrame_congr (checkFrame_lki _ _ _ _)]
      exact hh
    have hy : goOn (examineFrame k (readFrame s)) = finishFrame g x (examineFrame k (readFrame s)) := by
      rw [goOn_on hg]
      simp only [advanceFrame, hg]
    rw [hy, goOn_done (finishFrame_inHand g x hf)]

/-- FIELD_FRAME on a frame in hand before step 1: steps 1 to 11, and for a good frame steps 12 to 14. -/
theorem takeFrame_taken {s : State} {tag : Byte} {b : List Byte} {k : Reading} (h : s.headFrame = some (tag, b))
    (hk : s.fck.inHand = some (.taken k)) :
    ((examineFrame k s).fck.inHand = none ∧ takeFrame s = examineFrame k s) ∨
      ∃ g x, (examineFrame k s).fck.inHand = some (.good g x) ∧ takeFrame s = finishFrame g x (examineFrame k s) := by
  have ha : advanceFrame s = examineFrame k s := by simp only [advanceFrame, hk]
  unfold takeFrame
  rw [ha]
  rcases examineFrame_cases k h with ⟨hd, -⟩ | ⟨g, x, hg, he⟩
  · exact .inl ⟨hd, by rw [goOn_done hd, goOn_done hd]⟩
  · refine .inr ⟨g, x, hg, ?_⟩
    have hf : (examineFrame k s).headFrame = some (tag, b) := by
      rw [he, State.headFrame_congr (checkFrame_lki _ _ _ _)]
      exact h
    have hy : goOn (examineFrame k s) = finishFrame g x (examineFrame k s) := by
      rw [goOn_on hg]
      simp only [advanceFrame, hg]
    rw [hy, goOn_done (finishFrame_inHand g x hf)]

end Sys2Proof.Machine
end

