-- ==== Sys2Proof/Laws/Requests.lean ====
section
/-! SUPPORT. What the operations under the requests do, said once: reading back a written number, posting a notice,
placing a reply and freeing the head, serving a request. -/

namespace Sys2Proof.Machine

/-! ### Numbers in bytes (10 R198) -/

@[simp] theorem be_length (k n : Nat) : (be k n).length = k := by
  induction k with
  | zero => rfl
  | succ k ih => simp [be, ih]

theorem beNat_foldl (l : List Byte) (a : Nat) :
    l.foldl (fun acc b => acc * 256 + b.toNat) a = a * 256 ^ l.length + beNat l := by
  unfold beNat
  induction l generalizing a with
  | nil => simp
  | cons b l ih =>
    rw [List.foldl_cons, List.foldl_cons, ih, ih (0 * 256 + b.toNat), List.length_cons, Nat.pow_succ', ← Nat.add_assoc,
      Nat.zero_mul, Nat.zero_add, Nat.add_mul, Nat.mul_assoc]

theorem beNat_cons (b : Byte) (l : List Byte) : beNat (b :: l) = b.toNat * 256 ^ l.length + beNat l := by
  rw [beNat, List.foldl_cons, beNat_foldl l, Nat.zero_mul, Nat.zero_add]

/-- A number that fits its bytes is read back as it was written; a larger one modulo what they hold. -/
theorem beNat_be (k n : Nat) : beNat (be k n) = n % 256 ^ k := by
  induction k with
  | zero => simp [be, beNat, Nat.mod_one]
  | succ k ih =>
    have h : n % 256 ^ (k + 1) = n % 256 ^ k + 256 ^ k * (n / 256 ^ k % 256) := by rw [Nat.pow_succ, Nat.mod_mul]
    rw [be, beNat_cons, be_length, ih, BitVec.toNat_ofNat, h, Nat.add_comm, Nat.mul_comm]

/-- The field at the front of written bytes. -/
theorem field_be (k n : Nat) (rest : List Byte) (h : n < 256 ^ k) : field (be k n ++ rest) 0 k = n := by
  rw [field, List.drop_zero, List.take_left' (be_length k n), beNat_be, Nat.mod_eq_of_lt h]

/-- A written number is read back modulo what its bytes hold. -/
theorem field_be_mod (k n : Nat) (rest : List Byte) : field (be k n ++ rest) 0 k = n % 256 ^ k := by
  rw [field, List.drop_zero, List.take_left' (be_length k n), beNat_be]

/-- A field within the front part of the bytes. -/
theorem field_within (front rest : List Byte) (off len : Nat) (h : off + len ≤ front.length) :
    field (front ++ rest) off len = field front off len := by
  rw [field, field, List.drop_append_of_le_length (by omega), List.take_append_of_le_length (by simp; omega)]

/-- A field behind a part of the bytes. -/
theorem field_skip (front rest : List Byte) (off len : Nat) :
    field (front ++ rest) (front.length + off) len = field rest off len := by
  rw [field, field, List.drop_append, List.drop_eq_nil_of_le (Nat.le_add_right _ _), Nat.add_sub_cancel_left,
    List.nil_append]

@[simp] theorem optLabelBytes_length (x : Option Label) : (optLabelBytes x).length = 7 := by
  cases x <;> simp [optLabelBytes, Label.bytes]

/-- An optional label behind a part of the bytes stands there (10 R199). -/
theorem optLabelBytes_laid (front rest : List Byte) (x : Option Label) :
    LabelLaid (front ++ (optLabelBytes x ++ rest)) front.length x := by
  cases x with
  | none =>
    have h := field_skip front (be 7 0 ++ rest) 0 7
    rw [field_be_mod] at h
    exact h
  | some l =>
    have h1 := field_skip front (be 1 1 ++ (l.bytes ++ rest)) 0 1
    have h2 := field_skip (front ++ be 1 1)
      (be 4 l.second.label.toNat ++ (be 1 l.second.inserted.toNat ++ be 1 l.index ++ rest)) 0 4
    have h3 := field_skip (front ++ be 1 1 ++ be 4 l.second.label.toNat)
      (be 1 l.second.inserted.toNat ++ (be 1 l.index ++ rest)) 0 1
    have h4 := field_skip (front ++ be 1 1 ++ be 4 l.second.label.toNat ++ be 1 l.second.inserted.toNat)
      (be 1 l.index ++ rest) 0 1
    have hb : l.second.inserted.toNat < 256 := by cases l.second.inserted <;> decide
    simp only [field_be_mod, List.length_append, be_length, Nat.add_zero, List.append_assoc, Nat.pow_one, Nat.reduceAdd,
      Nat.mod_eq_of_lt hb] at h1 h2 h3 h4
    rw [Nat.mod_eq_of_lt (Nat.lt_of_lt_of_le l.second.label.isLt (by decide))] at h2
    intro e he
    simp only [List.mem_cons, List.not_mem_nil, or_false] at he
    rcases he with rfl | rfl | rfl | rfl <;> simp only [optLabelBytes, Label.bytes, List.append_assoc, h2, h3, h4]
    · exact h1

/-- The body of an ALIGN_STOP reply placed in STANDBY (08 R178, 10 R206). -/
theorem stoppedBody_report (s : State) (h : s.alb.runState = .standby) :
    StopReport (stoppedBody s) s.alb.start s.alb.base s.alb.frontier := by
  have h1 := optLabelBytes_laid (be 1 0) (optLabelBytes s.alb.base ++ optLabelBytes s.alb.frontier) s.alb.start
  have h2 := optLabelBytes_laid (be 1 0 ++ optLabelBytes s.alb.start) (optLabelBytes s.alb.frontier) s.alb.base
  have h3 := optLabelBytes_laid (be 1 0 ++ optLabelBytes s.alb.start ++ optLabelBytes s.alb.base) [] s.alb.frontier
  simp only [List.length_append, be_length, optLabelBytes_length, List.append_assoc, List.append_nil, Nat.reduceAdd]
    at h1 h2 h3
  have e : stoppedBody s =
      be 1 0 ++ (optLabelBytes s.alb.start ++ (optLabelBytes s.alb.base ++ optLabelBytes s.alb.frontier)) := by
    simp only [stoppedBody, h, RunState.code, List.append_assoc]
  rw [e]
  exact ⟨by simp, field_be 1 0 _ (by decide), h1, h2, h3⟩

/-! ### Notices (09 R187, R188) -/

/-- A posting touches the Notice Queue alone, as `Ntq.took` says. -/
theorem post_took (e : NoticeEvent) (s : State) : post e s = { s with ntq := s.ntq.took s.tbu.uptime e } := by
  unfold post Ntq.took satInc
  split <;> rfl

/-- What a posting does to the records: it joins the tail, or the queue is full and they stay. -/
theorem Ntq.took_records (q : Ntq) (now : Uptime) (e : NoticeEvent) :
    (q.took now e).records = q.records ++ [⟨e, now, 0⟩] ∨ 32 ≤ q.records.length ∧ (q.took now e).records = q.records := by
  unfold Ntq.took
  split
  · exact .inl rfl
  · exact .inr ⟨Nat.le_of_not_lt ‹_›, rfl⟩

/-! ### Replies and requests (07 R150, R154, 08 R161) -/

/-- Placing a reply and freeing the head: the reply waits, so no FLOW flag is set. -/
theorem State.placeReply_freeHead (s : State) (r : Reply) :
    (s.placeReply r).freeHead =
      { s with lki := { s.lki with inbound := s.lki.inbound.tail, replies := s.lki.replies ++ [r] } } := by
  simp [State.freeHead, State.placeReply, State.otherWaiting]

/-- A refused request. -/
theorem State.answer_refuse (s : State) (tag k : Byte) (x : Status) (d : Nat) :
    (s.answer tag k (.refuse x d)).freeHead = s.replied tag k x d [] := by
  simp [State.answer, State.placeReply_freeHead, State.replied, replyPayload, be]

/-- A request answered OK. -/
theorem State.answer_ok (s : State) (tag k : Byte) (body : List Byte) :
    (s.answer tag k (.ok body)).freeHead = s.replied tag k .ok 0 body := by
  simp [State.answer, State.placeReply_freeHead, State.replied, replyPayload, be]

/-- A request at the head with its place free is taken; ALIGN_STOP needs the kept place too (07 R151). -/
theorem State.Asked.requestOf {s : State} {tag k : Byte} {p : List Byte} (h : s.Asked tag k p)
    (hk : k = 0x0D → s.keptFree = true) : s.requestOf k = some (tag, p) := by
  have hr : s.headReady = true := by
    rw [State.headReady, h.head]
    dsimp only
    rw [h.place]
    split
    · rfl
    · split
      · simp [hk ‹_›]
      · rfl
  simp [State.requestOf, h.head, hr]

/-- Serving a request that is asked: its body's effects, its reply, the head freed. -/
theorem serve_asked {s : State} {tag k : Byte} {p : List Byte} (h : s.Asked tag k p)
    (hk : k = 0x0D → s.keptFree = true) (body : Byte → List Byte → State → State × Answer) :
    serve k body s = ((body tag p s).1.answer tag k (body tag p s).2).freeHead := by
  simp only [serve, h.requestOf hk]

/-- Serving is either nothing or one body with its answer. -/
theorem serve_cases (k : Byte) (body : Byte → List Byte → State → State × Answer) (s : State) :
    serve k body s = s ∨
      ∃ tag p, s.lki.inbound.head? = some (.request tag (k :: p)) ∧ s.headReady = true ∧
        serve k body s = ((body tag p s).1.answer tag k (body tag p s).2).freeHead := by
  unfold serve
  cases h : s.requestOf k with
  | none => exact .inl rfl
  | some x =>
    obtain ⟨tag, p⟩ := x
    refine .inr ⟨tag, p, ?_, ?_, rfl⟩ <;>
    · unfold State.requestOf at h
      split at h
      · split at h
        · simp_all
        · simp at h
      · simp at h

/-- A request of another length. -/
theorem ofLength_ne {n : Nat} {p : List Byte} (h : p.length ≠ n) (s : State) (b : State × Answer) :
    ofLength n p s b = (s, .refuse .badLength 0) := if_neg h

/-- A request of the right length. -/
theorem ofLength_eq {n : Nat} {p : List Byte} (h : p.length = n) (s : State) (b : State × Answer) :
    ofLength n p s b = b := if_pos h

end Sys2Proof.Machine
end

