-- ==== Sys2Proof/Laws/Time.lean ====
section
/-! SUPPORT. What the Time Base Unit's shared operations do, said once: a change of local time, entering a time state, an
applied leap event, the REFCLK cycle's counts. -/

namespace Sys2Proof.Machine

universe u
variable {α : Sort u} {f : State → α}

/-! ### A change of local time (01 R17, 05 R104) -/

/-- A delivered tick changes the newest ticked label alone in the time base. -/
theorem deliverTick_tbu (s : State) :
    (deliverTick s).tbu = { s.tbu with newestTick := s.tickDue.or s.tbu.newestTick } := by
  unfold deliverTick
  cases h : s.tickDue with
  | none => rfl
  | some l => exact bufferTick_frame (f := State.tbu) (fun _ _ _ => rfl) _ _

/-- A delivered tick touches the buffer, the Set Emitter and the time base alone. -/
theorem deliverTick_frame (hf : IgnoresBuffer f) (ht : ∀ s t, f { s with tbu := t } = f s) (s : State) :
    f (deliverTick s) = f s := by
  unfold deliverTick
  split
  · rfl
  · exact (bufferTick_frame hf _ _).trans (ht s _)

/-- The tick that ends its wait touches the time base alone. -/
theorem endTickWait_frame (ht : ∀ s t, f { s with tbu := t } = f s) (o : Option Instant) (s : State) :
    f (endTickWait o s) = f s := ht s _

/-- No tick is due while one waits for a change of local time (01 R18). -/
theorem tickDue_waiting {s : State} (hn : s.tbu.newestTick = none) (hw : s.tbu.tickWaits = true) : s.tickDue = none := by
  unfold State.tickDue
  split <;> simp [hn, hw]

/-- Sealing the due slots changes nothing that tells which tick is due. -/
theorem sealDue_tickDue (s : State) : (sealDue s).tickDue = s.tickDue :=
  sealDue_frame (f := State.tickDue) (fun _ _ _ => rfl) s

/-- A change of local time ends a tick's wait and changes the newest ticked label, and nothing else in the time base. -/
theorem localTimeChanged_tbu (o : Option Instant) (s : State) :
    (localTimeChanged o s).tbu =
      { s.tbu with
        tickWaits := s.tbu.tickWaits && decide (s.tbu.localTime = o)
        newestTick := (endTickWait o s).tickDue.or s.tbu.newestTick } := by
  unfold localTimeChanged
  rw [deliverTick_tbu, sealDue_tickDue, sealDue_frame (f := State.tbu) fun _ _ _ => rfl]
  rfl

/-- A change of local time touches the buffer, the Set Emitter and the time base alone. -/
theorem localTimeChanged_frame (hf : IgnoresBuffer f) (ht : ∀ s t, f { s with tbu := t } = f s) (o : Option Instant)
    (s : State) : f (localTimeChanged o s) = f s :=
  (deliverTick_frame hf ht _).trans ((sealDue_frame hf _).trans (endTickWait_frame ht o s))

/-! ### States, leap events, cycles -/

/-- Entering a time state: the state and its notice. -/
theorem enterState_eq (new : TimeState) (s : State) :
    enterState new s =
      { s with
        tbu := { s.tbu with tstate := new }
        ntq := s.ntq.took s.tbu.uptime (.timeState s.tbu.tstate new s.tbu.second.label) } :=
  post_took _ _

/-- With no leap event to apply, nothing happens. -/
theorem applyLeap_none {x : Second} {s : State} (h : s.leaps.applies x = none) : applyLeap x s = s := by
  simp only [applyLeap, h]

/-- An applied leap event: it becomes the last applied one, with its flag and its notice. -/
theorem applyLeap_some {x : Second} {s : State} {e : LeapEvent} (h : s.leaps.applies x = some e) :
    applyLeap x s =
      { s with
        tbu := { s.tbu with leaps := ⟨none, some e⟩, flags := { s.tbu.flags with leapApplied := true } }
        ntq := s.ntq.took s.tbu.uptime (.leap e.dir e.second) } := by
  simp only [applyLeap, h]
  exact post_took _ _

/-- What every REFCLK cycle does to the time base: the microsecond, the candidate interval, the end of a tick's wait. -/
theorem commonCycle_tbu (s : State) :
    (commonCycle s).tbu =
      { s.tbu with
        usPhase := if 49 ≤ s.tbu.usPhase then 0 else s.tbu.usPhase + 1
        uptime := if 49 ≤ s.tbu.usPhase then s.tbu.uptime + 1 else s.tbu.uptime
        candInterval := min (s.tbu.candInterval + 1) 50010001
        tickWaits := false } := by
  simp [commonCycle]

end Sys2Proof.Machine
end

