-- ==== Sys2Proof/WellFormed.lean ====
section
/-! DEFINITION. Which commands name things the part has. -/

namespace Sys2Proof

/-- A command is well formed when the stream it names is one of the 256 (03, the stream record). An ill-formed command
names no event of the part: it is never due and changes nothing (log 2). -/
def Instr.wf : Instr → Bool
  | .silenceExpiry stream _ => decide (stream < Config.streams)
  | .pinReset .. | .startupEnd | .ppsEdge _ | .secondRollover | .ppsMissed | .outputGridTick | .deadlineArrival
  | .receiveMessage _ | .truncated | .fieldFrame | .lengthNoteReply | .badKind | .identify | .setIdentity | .configure
  | .timePolicy | .timeLabel | .leapSchedule | .timeQuery | .streamDefine | .streamEnable | .streamDisable
  | .streamQuery | .alignStart | .alignStop | .bufferQuery | .softReset | .replyStart | .replyEnd | .noticeStart
  | .noticeEnd | .flowStart | .flowEnd | .setStart | .setEmissionEnd | .lateStart | .lateEnd | .hrdyFall | .hrdyRise
  | .emptyPayloadRequest => true

end Sys2Proof
end

