-- ==== Sys2Proof/Tests/Slice0.lean ====
section
/-! SUPPORT. Tests: well-formedness, the arithmetic and the events against the spec's own tables and worked examples, and
a witness for the hypotheses of every statement. -/

namespace Sys2Proof.Tests

set_option Elab.async false

open Sys2Proof.Machine

/-! ### Helpers -/

/-- The state of an outcome. -/
def out : Host.Outcome State Fault Refusal → State
  | .next t => t
  | .fault _ => State.reset
  | .refused _ => State.reset

/-- A part in LOCKED at second 1,700,000,000, its gate open, HRDY high, nothing waiting. -/
def bench : State :=
  { State.reset with
    pins := ⟨true, false⟩
    lki := { Lki.reset with gate := .opened, rxLine := .wait true }
    tbu := { Tbu.reset with
      tstate := .locked
      second := ⟨1700000000, false⟩
      newestTick := some ⟨⟨1700000000, false⟩, 0⟩
      window := .matched } }

/-- `s` with its time base changed. -/
def timed (f : Tbu → Tbu) (s : State) : State := { s with tbu := f s.tbu }

/-- `s` with the clock of the link at a phase. -/
def clocked (phase : Nat) (s : State) : State := { s with lki := { s.lki with ltxcPhase := phase } }

/-- `s` with a request of kind `k` and fields `p` at the head. -/
def asks (k : Byte) (p : List Byte) (s : State) : State :=
  { s with lki := { s.lki with inbound := [.request 7 (k :: p)] } }

theorem asks_asked {s : State} (h : s.placeFree = true) (k : Byte) (p : List Byte) : (asks k p s).Asked 7 k p := ⟨rfl, h⟩

/-! ### Well-formedness -/

theorem test_wf_stream_in_range : (Instr.silenceExpiry 255 .b).wf = true := by decide +kernel

theorem test_wf_stream_refused : (Instr.silenceExpiry 256 .a).wf = false := by decide +kernel

theorem test_ill_formed_changes_nothing : out (exec (.silenceExpiry 256 .a) bench) = bench := rfl

/-! ### Arithmetic against the tables of the spec -/

/-- The check of the ASCII digits 1 to 9 for the polynomial of 02 R28 from all ones: 0x29B1. -/
theorem test_crc16 : crc16 [0x31, 0x32, 0x33, 0x34, 0x35, 0x36, 0x37, 0x38, 0x39] = 0x29B1 := by decide +kernel

/-- The same digits under the header check of 07 R143: 0xF4. -/
theorem test_crc8 : crc8 [0x31, 0x32, 0x33, 0x34, 0x35, 0x36, 0x37, 0x38, 0x39] = 0xF4 := by decide +kernel

/-- The table after 04 R71. -/
theorem test_fraction :
    [fractionNs 20003 1000000, fractionNs 10 30, fractionNs 20 30, fractionNs 1 1024, fractionNs 16777214 16777215,
      fractionNs 0 1] = [20003000, 333333333, 666666667, 976563, 999999940, 0] := by decide +kernel

/-- The snap table of 04: index, grid point and offset. -/
theorem test_snap :
    [(50, 20003000), (30, 333333333), (120, 8400000), (60, 49960000), (50, 20150000), (50, 999950000)].map
        (fun e : Nat × Nat => let x := snap ⟨none, none⟩ ⟨5, false⟩ e.2 e.1; (x.second.label, x.index, x.grid, x.offset)) =
      [(5, 1, 20000000, 3000), (5, 10, 333333333, 0), (5, 1, 8333333, 66667), (5, 3, 50000000, -40000),
        (5, 1, 20000000, 150000), (6, 0, 0, -50000)] := by decide +kernel

/-- The phase compensation table of 04: angle out. -/
theorem test_rotation :
    [(false, 120, 250000, 12000), (true, 0, -40000, 65500), (true, -32768, 66667, 100), (true, 32767, 1000000, 3000)].map
        (fun e : Bool × Int × Int × Nat =>
          (rotatePhasor (rotation (signalFrequency e.1 (BitVec.ofInt 16 e.2.1)) e.2.2.1)
            ⟨0, BitVec.ofNat 16 e.2.2.2⟩).angle.toNat) =
      [11179, 121, 65374, 62456] := by decide +kernel

/-- The regression and future cases of 04. -/
theorem test_regression_future :
    (regresses ⟨none, none⟩ 25 (some ⟨⟨6, false⟩, 10, 200000000⟩) ⟨⟨1, false⟩, 4, 80000000, 0⟩,
      regresses ⟨none, none⟩ 25 (some ⟨⟨6, false⟩, 10, 200000000⟩) ⟨⟨1, false⟩, 3, 60000000, 0⟩,
      beyondFuture ⟨none, none⟩ 1000 (some ⟨⟨6, false⟩, 500000000⟩) ⟨⟨7, false⟩, 25, 500000000, 0⟩,
      beyondFuture ⟨none, none⟩ 1000 (some ⟨⟨6, false⟩, 500000000⟩) ⟨⟨7, false⟩, 26, 520000000, 0⟩) =
      (false, true, false, true) := by decide +kernel

/-- The latency table of 04, its fourth row with an INSERT at S applied. -/
theorem test_latency :
    [latencySample (Leaps.diff ⟨none, none⟩ ⟨⟨9, false⟩, 280000000⟩ ⟨⟨9, false⟩, 312450800⟩),
      latencySample (Leaps.diff ⟨none, none⟩ ⟨⟨8, false⟩, 960000000⟩ ⟨⟨9, false⟩, 15000000⟩),
      latencySample (Leaps.diff ⟨none, none⟩ ⟨⟨9, false⟩, 500000000⟩ ⟨⟨9, false⟩, 497000000⟩),
      latencySample (Leaps.diff ⟨none, some ⟨9, .ins⟩⟩ ⟨⟨9, false⟩, 960000000⟩ ⟨⟨10, false⟩, 10000000⟩)] =
      [32450, 55000, 0, 1050000] := by decide +kernel

/-- The filter step of 04 4.10. -/
theorem test_filter : filterLatency 45000 46210 = 45151 := by decide +kernel

/-- The adaptive deadline of 04 4.8, without and with a pending INSERT at S. -/
theorem test_deadline :
    (Leaps.advance ⟨none, none⟩ ⟨⟨3, false⟩, 960000000⟩ 132400000,
      Leaps.advance ⟨some ⟨3, .ins⟩, none⟩ ⟨⟨3, false⟩, 960000000⟩ 132400000) =
      ((⟨⟨4, false⟩, 92400000⟩, ⟨⟨3, true⟩, 92400000⟩) : Instant × Instant) := by decide +kernel

/-- The silence limits of the table of 03 R58. -/
theorem test_silence_limits :
    [silenceLimit 1 120, silenceLimit 3 20, silenceLimit 3 50, silenceLimit 5 12, silenceLimit 10 30, silenceLimit 255 1] =
      [8333, 150000, 60000, 416666, 333333, 255000000] := by decide +kernel

/-- The distances of the leap insertion example of 01, and of the same leap as a DELETE. -/
theorem test_leap_distances :
    (Leaps.labelDist ⟨some ⟨500000, .ins⟩, none⟩ 25 ⟨⟨500000, false⟩, 24⟩ ⟨⟨500000, true⟩, 0⟩,
      Leaps.labelDist ⟨some ⟨500000, .ins⟩, none⟩ 25 ⟨⟨499999, false⟩, 0⟩ ⟨⟨500001, false⟩, 0⟩,
      Leaps.labelDist ⟨some ⟨500000, .del⟩, none⟩ 25 ⟨⟨499999, false⟩, 0⟩ ⟨⟨500001, false⟩, 0⟩) =
      (1, 75, 25) := by decide +kernel

/-! ### Time, after the worked examples of 01 -/

/-- E2 locks: the label given, N_sec the interval. -/
theorem test_pps_locks :
    let t := (out (exec (.ppsEdge true)
      (timed (fun b => { b with
        tstate := .acquiring
        pendingLabel := some ⟨1700000000, false⟩
        prevEdge := true
        c := 49999870
        newestTick := none }) bench))).tbu
    (t.tstate, t.nSec, t.c, t.second) = (.locked, 49999870, 0, ⟨1700000000, false⟩) := by decide +kernel

/-- E3, 12 counts late, then E4, 35 counts early. -/
theorem test_pps_corrections :
    let t := (out (exec (.ppsEdge true)
      (timed (fun b => { b with nSec := 49999870, c := 12, window := .opened, windowW := 100 }) bench))).tbu
    let u := (out (exec (.ppsEdge true) (timed (fun b => { b with nSec := 49999882, c := 49999847 }) bench))).tbu
    (t.c, t.lastError, t.nSec, u.c, u.lastError, u.nSec, u.second.label) =
      (0, 12, 49999882, 0, -35, 49999847, 1700000001) := by decide +kernel

/-- The phase step of the holdover example. -/
theorem test_phase_step :
    let t := out (exec (.ppsEdge true)
      (timed (fun b => { b with
        tstate := .holdover
        c := 10500000
        stepCount := 2
        candInterval := 50000000
        window := .opened }) bench))
    (t.tbu.c, t.tbu.nSec, t.tbu.lastError, t.tbu.tstate, t.tbu.flags.stepped, t.tbu.second.label) =
      (0, 50000000, 10500000, .locked, true, 1700000000) ∧
    t.ntq.records.map (·.event) = [.timeStep 10500000, .timeState .holdover .locked 1700000000] := by decide +kernel

/-- The second miss of the holdover example. -/
theorem test_second_miss :
    let t := out (exec .ppsMissed (timed (fun b => { b with c := 101, missCount := 1, window := .opened }) bench))
    (t.tbu.tstate, t.tbu.missCount, t.tbu.grade) = (.holdover, 0, .b) := by decide +kernel

/-- The rollover into the inserted second of the leap insertion example. -/
theorem test_rollover_inserts :
    let t := out (exec .secondRollover
      (timed (fun b => { b with
        second := ⟨500000, false⟩
        c := 49999999
        leaps := ⟨some ⟨500000, .ins⟩, none⟩
        newestTick := some ⟨⟨500000, false⟩, 9⟩ }) bench))
    (t.tbu.second, t.tbu.leaps, t.tbu.flags.leapApplied, t.tbu.newestTick) =
      (⟨500000, true⟩, ⟨none, some ⟨500000, .ins⟩⟩, true, some ⟨⟨500000, true⟩, 0⟩) := by decide +kernel

/-- A tick at the instant 300 ms of Fout 10 (rate code 3): index 3. -/
theorem test_tick :
    (out (exec .outputGridTick (timed (fun b => { b with c := 15000000 }) bench))).tbu.newestTick =
      some ⟨⟨1700000000, false⟩, 3⟩ := by decide +kernel

/-- After a changed Fout the next change of local time, here a cycle, makes the tick due; before it none is (01 R18). -/
theorem test_tick_after_rate :
    let t := out (exec .configure (asks 0x03 (be 1 7 ++ be 1 1 ++ be 2 0 ++ be 2 3000 ++ be 2 300 ++ be 2 700 ++ be 2 1000
      ++ be 2 5000 ++ be 1 1) bench))
    (t.tickDue, (passCycle t).tickDue) = (none, some ⟨⟨1700000000, false⟩, 0⟩) := by decide +kernel

/-! ### Messages -/

/-- CONFIGURE, the clamping example of 08: the effective values and the marks in the reply. -/
theorem test_configure :
    let t := out (exec .configure (asks 0x03 (be 1 7 ++ be 1 1 ++ be 2 0 ++ be 2 3000 ++ be 2 300 ++ be 2 700 ++ be 2 1000
      ++ be 2 5000 ++ be 1 1) bench))
    t.rqh.config = ⟨7, .adaptive, 1, 2000, 2000, 500, 1000, 5000, .forward⟩ ∧
      (t.lki.replies.map (·.payload.getLastD 0)) = [0x0F] ∧ t.tbu.newestTick = none := by decide +kernel

/-- The SET of the worked example of 10: 109 bytes of payload. -/
theorem test_set_length :
    let x (p a d : Nat) : Cell := ⟨3, 1, .a, false, false, false, false, false, true, 0, 0, 0,
      ⟨List.replicate p ⟨0, 0⟩, 0, 0, List.replicate a 0, List.replicate d 0⟩⟩
    (SetRecord.bytes ⟨0, ⟨⟨0, false⟩, 11⟩, 3, .tick, .deadline, .a, 3, 1, 1, 1,
      [⟨3, true, .present (x 3 0 1)⟩, ⟨5, true, .held (x 1 2 0) 1⟩, ⟨9, true, .absent⟩]⟩).length = 109 := by decide +kernel

/-- A NOTICE is 19 bytes (10 R209). -/
theorem test_notice_length : (Notice.bytes ⟨.timeStep (-35), 0, 0⟩).length = 19 := by decide +kernel

/-- SET_IDENTITY 0x1234 sent on the line: seven header bytes, kind, value, check word, all on LRXD. -/
theorem test_receive :
    (out (exec (.receiveMessage (lineBytes (messageBytes 0x01 9 0 [0x02, 0x12, 0x34]))) bench)).lki.inbound =
      [.request 9 [0x02, 0x12, 0x34]] := by decide +kernel

/-- And executed. -/
theorem test_set_identity :
    (out (exec .setIdentity (asks 0x02 [0x12, 0x34] bench))).rqh.identity = 0x1234 := by decide +kernel

/-! ### Witnesses: states and operands that meet the hypotheses of the statements, clause by clause -/

/-- `bench` with a command waiting. -/
def busy : State := { bench with pending := [.hrdyFall] }

/-- `bench` without streams and slots, for what is due. -/
def quiet : State := { bench with streams := [], alb := { Alb.reset with slots := [] } }

/-- A WAITING stream of rate code 9, TB 1,000,000, without phasors. -/
def unit : StreamRec :=
  { StreamRec.reset with source := 4210, state := .waiting, layout := some ⟨⟨9, 1000000, 0, 0, 0⟩, .pinned⟩ }

/-- `s` with stream 12 alone enabled. -/
def streamed (r : StreamRec) (s : State) : State :=
  { s with streams := s.streams.set 12 r, sourceMap := [(r.source, 12)] }

/-- A frame of bytes with its check word. -/
def checked (b : List Byte) : List Byte := b ++ be 2 (crc16 b).toNat

/-- A DATA frame of `unit` with a second, a fraction and a time quality, 18 bytes. -/
def frameAt (second fraction : Nat) (quality : Byte) : List Byte :=
  checked (be 2 4210 ++ [0x01, 0x00] ++ be 4 second ++ be 3 fraction ++ [quality, 0, 0, 0, 0])

/-- The DATA frame of `unit` at a fraction of the second 1,700,000,000. -/
def frame (fraction : Nat) : List Byte := frameAt 1700000000 fraction 0x80

/-- A LAYOUT frame of `unit` with a rate code and a nominal frequency, no channels. -/
def layoutAt (rate nominal : Nat) : List Byte :=
  checked (be 2 4210 ++ [0x02] ++ be 1 rate ++ be 3 1000000 ++ [0, 0, 0] ++ be 1 nominal)

/-- A frame's reading at the start of the second 1,700,000,000. -/
def reading : Reading := ⟨0, some ⟨⟨1700000000, false⟩, 0⟩⟩

/-- `s` with a FIELD message at the head. -/
def fields (tag : Byte) (b : List Byte) (s : State) : State := { s with lki := { s.lki with inbound := [.field tag b] } }

/-- `s` in a run whose B is label 0 of the second 1,700,000,000, the start label the same. -/
def running (r : RunState) (s : State) : State :=
  { s with
    alb := { s.alb with
      runState := r
      start := some ⟨⟨1700000000, false⟩, 0⟩
      base := some ⟨⟨1700000000, false⟩, 0⟩
      frontier := some ⟨⟨1700000000, false⟩, 0⟩ } }

/-- What a slot of label 0 holds, expecting stream 12. -/
def held : SlotData := ⟨⟨⟨1700000000, false⟩, 0⟩, .tick, .a, 1000, ⟨⟨1700000000, false⟩, 1000000⟩, [12], [], 0⟩

/-- `s` with one slot filled. -/
def slotted (pos : Nat) (x : Slot) (s : State) : State := s.setSlot pos x

/-- `s` with a message in transmission. -/
def sends (m : TxMessage) (s : State) : State := { s with lki := { s.lki with tx := some m } }

/-- `s` with a reply waiting. -/
def replying (s : State) : State := { s with lki := { s.lki with replies := [⟨false, 1, [0x01]⟩] } }

/-- `s` with a notice waiting. -/
def noticed (s : State) : State := { s with ntq := ⟨[⟨.timeStep 1, 0, 0⟩], 2⟩ }

/-- A cell of stream 12. -/
def cell : Cell := ⟨12, 4210, .a, false, false, false, false, false, false, 0, 0, 0, ⟨[], 0, 0, [], []⟩⟩

/-- A late cell waiting. -/
def lateWaiting (s : State) : State :=
  { s with sem := { s.sem with late := [⟨⟨⟨1700000000, false⟩, 0⟩, 3, .sealed, cell⟩] } }

/-- A message of a class with its last byte out. -/
def last (c : OutClass) (p : List Byte) : TxMessage := ⟨c, 1, p, some 15, p.length + 9, 0, false⟩

theorem streamed_stream (r : StreamRec) (n : Nat) : (streamed r bench).stream n = if n = 12 then r else .reset := by
  simp only [State.stream, streamed, bench, State.reset, List.getD_eq_getElem?_getD, List.getElem?_set,
    List.getElem?_replicate, List.length_replicate, Config.streams]
  by_cases h : n = 12
  · subst h; rfl
  · by_cases h' : n < 256 <;> simp [h, h', Ne.symm h]

theorem busy_stream (n : Nat) : busy.stream n = .reset := by
  simp only [State.stream, busy, bench, State.reset, List.getD_eq_getElem?_getD, List.getElem?_replicate]
  split <;> rfl

theorem running_sound (r : RunState) (h : r ≠ .draining) : (running r busy).alb.RunSound where
  slots := rfl
  basePos := Nat.zero_lt_succ 127
  opened := fun _ x hx => by
    have : x = .vacant := List.eq_of_mem_replicate hx
    subst this; rfl
  sealing := fun hr => absurd hr h
  labels := fun _ => ⟨rfl, rfl, rfl⟩

theorem busy_emission : (running .running busy).EmissionSound where
  run := running_sound .running (by decide)
  sending := ⟨fun h => by obtain ⟨m, h, -⟩ := h; simp [running, busy, bench, Lki.reset] at h,
    fun h => by simp [running, busy, bench, State.reset, Sem.reset, Cursor.isSending] at h⟩
  record := rfl
  cursor := fun _ _ h => by simp [running, busy, bench, State.reset, Sem.reset, Cursor.at?] at h
  offered := fun h => by simp [State.slotAt, running, busy, bench, State.reset, Alb.reset, Slot.isSealed] at h
  standby := fun h => by simp [running] at h
  ring := fun h => by simp [running] at h
  flushed := fun h => by simp [running, busy, bench] at h
  passedOver := fun h => by simp [running, busy, bench] at h
  notice := fun h => by obtain ⟨m, h, -⟩ := h; simp [running, busy, bench, Lki.reset] at h
  late := fun h => by obtain ⟨m, h, -⟩ := h; simp [running, busy, bench, Lki.reset] at h

theorem witness_StepRunsTheFrontCommand : busy.pending = .hrdyFall :: [] := rfl

theorem witness_IdleStep :
    (State.reset.pending = [] ∧ State.reset.nextDue = some .startupEnd) ∧
    (let s := fields 0 (frame 0) quiet;
      s.pending = [] ∧ s.nextDue = none ∧ s.headFrame = some (0, frame 0) ∧ s.fck.inHand = none ∧
        (readFrame s).nextDue = none ∧ (readFrame s).headFrame = some (0, frame 0) ∧
        (readFrame s).fck.inHand = some (.taken ⟨0, some ⟨⟨1700000000, false⟩, 0⟩⟩)) ∧
    (let s := timed (fun b => { b with c := 49999999, newestTick := some ⟨⟨1700000000, false⟩, 9⟩ }) quiet;
      s.pending = [] ∧ s.nextDue = none ∧ s.headFrame = none ∧ s.tbu.timeSet = true ∧ s.tbu.nSec ≤ s.tbu.c + 1) ∧
    (quiet.pending = [] ∧ quiet.nextDue = none ∧ quiet.headFrame = none ∧
      (quiet.tbu.timeSet = true → quiet.tbu.c + 1 < quiet.tbu.nSec) ∧ quiet.lki.tx = none) ∧
    (let s := timed (fun b => { b with tstate := .unset, c := 50010001 }) quiet;
      s.pending = [] ∧ s.nextDue = none ∧ s.tbu.timeSet = false) ∧
    (∀ e ∈ [(0, 0, 0), (0, 0, 3), (1, 40, 0), (9, 1, 3), (8, 1, 3), (5, 1, 3)],
      let m : TxMessage := ⟨.flow, 0, [], none, e.1, e.2.1, false⟩
      let s := clocked e.2.2 (sends m quiet)
      s.lki.tx = some m ∧ m.out ≤ m.payload.length + 9 ∧ s.lki.ltxcPhase = e.2.2) := by decide +kernel

theorem witness_SettingsKept :
    let s := { timed (fun b => { b with policy := ⟨0, 5000, 8, true⟩ }) bench with
      rqh := { Rqh.reset with identity := 1, idWritten := true } }
    ∃ t, exec .hrdyFall s = .next t ∧ s.rqh.idWritten = true ∧ s.tbu.policy.written = true ∧
      ∀ a b x y z, Instr.hrdyFall ≠ .pinReset a b x y z := ⟨_, rfl, rfl, rfl, nofun⟩

theorem witness_ConfigurationFixedInRun :
    let s := asks 0x03 (be 1 7 ++ be 1 1 ++ be 2 0 ++ be 2 3000 ++ be 2 300 ++ be 2 700 ++ be 2 1000 ++ be 2 5000
      ++ be 1 1) bench
    ∃ t, exec .configure s = .next t ∧ t.rqh.config ≠ s.rqh.config := ⟨_, rfl, by decide +kernel⟩

theorem witness_NoticesJoinTheTail :
    let s := noticed (timed (fun b => { b with c := 101, missCount := 1, window := .opened }) bench)
    ∃ t, exec .ppsMissed s = .next t ∧ t.ntq.records.length = 2 := ⟨_, rfl, by decide +kernel⟩

theorem witness_QueuesStayBounded : busy.Bounded ∧ ∃ t, step busy = .next t :=
  ⟨⟨by decide, by decide, by decide, by decide, by decide, by decide, by decide, by decide⟩, _, rfl⟩

theorem witness_TimeBaseStaysSound : busy.tbu.Sound ∧ busy.leaps.Single ∧ ∃ t, step busy = .next t :=
  ⟨⟨by decide, fun _ => by decide, by decide, by decide, by decide, by decide, by decide, by decide, by decide,
    fun h => by simp [busy, bench] at h, fun h => by simp [busy, bench, Tbu.timeSet] at h,
    fun h => by simp [busy, bench, Tbu.reset] at h⟩, .inl rfl, _, rfl⟩

theorem witness_StreamTableStaysSound :
    let s := { streamed unit bench with pending := [.hrdyFall] }
    s.RecordsSound ∧ s.SourcesSound ∧ ∃ t, step s = .next t := by
  have h (n : Nat) : ({ streamed unit bench with pending := [.hrdyFall] } : State).stream n =
      if n = 12 then unit else .reset := streamed_stream unit n
  refine ⟨fun n => ?_, ⟨by decide +kernel, ?_, ?_, by decide, ?_⟩, _, rfl⟩
  · rw [h]
    split <;>
    exact ⟨by decide, by decide, by decide, by decide, by decide, fun _ e => by simp [unit, StreamRec.reset] at e,
      fun _ e => by simp [unit, StreamRec.reset] at e, by decide, fun e => by simp [unit, StreamRec.reset] at e,
      fun e => by simp_all [unit, StreamRec.reset]⟩
  · intro e he
    simp only [streamed, List.mem_singleton] at he
    subst he
    rw [h]
    decide
  · intro n hn hs
    rw [h] at hs ⊢
    split at hs
    · subst n; simp [streamed, unit]
    · simp [StreamRec.reset] at hs
  · intro n hn hs
    rw [h] at hs ⊢
    split at hs
    · simp [unit] at hs
    · simp [*, StreamRec.reset]

theorem witness_PoolStaysWhole : busy.alb.PoolSound ∧ ∃ t, step busy = .next t := by
  refine ⟨⟨rfl, ?_⟩, _, rfl⟩
  have h : (List.replicate 128 Slot.vacant).flatMap Slot.numbers = [] := rfl
  simp only [Alb.numbers, busy, bench, State.reset, Alb.reset, Config.slots, h, List.append_nil]
  exact .refl _

theorem witness_EmissionStaysSound : (running .running busy).EmissionSound ∧ ∃ t, step (running .running busy) = .next t :=
  ⟨busy_emission, _, rfl⟩

theorem witness_TransmitterStaysSound :
    let s := sends ⟨.flow, 0, [], some 3, 6, 40, false⟩ busy
    s.lki.TransmitSound ∧ ∃ t, step s = .next t := by
  refine ⟨⟨fun m h => ?_, by decide, fun m h => ?_, by decide⟩, _, rfl⟩
  · cases h
    exact ⟨nofun, nofun, by decide, by decide, by decide, fun c h => by cases h; decide, nofun⟩
  · cases h
    decide

theorem witness_StreamBalanceKept :
    let s := running .running busy
    s.Bounded ∧ s.alb.RunSound ∧ (∀ n, s.Balanced n) ∧ ∃ t, step s = .next t :=
  ⟨⟨by decide, by decide, by decide, by decide, by decide, by decide, by decide, by decide⟩,
    running_sound _ (by decide), fun n => by
      unfold State.Balanced
      rw [show (running .running busy).stream n = busy.stream n from rfl, busy_stream]; exact fun _ => rfl, _, rfl⟩

theorem witness_OpeningBalanceKept :
    ∃ t, (running .running busy).EmissionSound ∧ exec .hrdyFall (running .running busy) = .next t ∧ t.alb.unstopped ∧
      ∀ a b x y z, Instr.hrdyFall ≠ .pinReset a b x y z :=
  ⟨_, busy_emission, rfl, by intro n h; revert n; decide, nofun⟩

theorem witness_StartupEndOpensTheGate :
    (State.reset.lki.gate = .closed ∧ State.reset.lki.tx = none ∧ State.reset.ntq.records.length < 32 ∧
      ∃ t, exec .startupEnd State.reset = .next t) ∧
      bench.lki.gate ≠ .closed := ⟨⟨rfl, rfl, by decide, _, rfl⟩, by decide⟩

theorem witness_SoftResetEvent :
    ((asks 0x0F [] bench).lki.inbound.head? = some (.request 7 [0x0F]) ∧ bench.lki.tx = none ∧
      bench.sem.cursor.isSending = false) ∧
    (∀ c ∈ [OutClass.notice, .late],
      let s := sends (last c []) (asks 0x0F [] (lateWaiting (noticed bench)))
      s.lki.inbound.head? = some (.request 7 [0x0F]) ∧ s.lki.tx = some (last c []) ∧ (last c []).cls = c) ∧
    (let s := slotted 127 (.sealed .deadline held)
        (asks 0x0F [] { bench with sem := { Sem.reset with cursor := .sending 127 held.label } });
      s.lki.inbound.head? = some (.request 7 [0x0F]) ∧ s.sem.cursor = .sending 127 held.label ∧ 127 < 128) := by
  decide +kernel

theorem witness_PpsInUnset :
    (State.reset.activeEdge true ∧ State.reset.tbu.tstate = .unset) ∧ ¬ State.reset.activeEdge false :=
  ⟨⟨rfl, rfl⟩, by unfold State.activeEdge; decide⟩

/-- `bench` in ACQUIRING with an interval measured. -/
def acquiring (had : Bool) (interval : Nat) : State :=
  timed (fun b => { b with
    tstate := .acquiring
    pendingLabel := some ⟨5, false⟩
    prevEdge := had
    c := interval
    newestTick := none }) bench

theorem witness_PpsInAcquiring :
    let s := acquiring true 49990000
    let u := acquiring true 50010001
    let v := timed (fun b => { b with leaps := ⟨some ⟨5, .ins⟩, none⟩ }) s
    (s.activeEdge true ∧ s.tbu.tstate = .acquiring ∧ s.tbu.pendingLabel = some ⟨5, false⟩ ∧
      s.leaps.applies ⟨5, false⟩ = none ∧ s.tbu.prevEdge = true ∧ 49990000 ≤ s.tbu.c ∧ s.tbu.c ≤ 50010000 ∧
      s.tbu.newestTick = none) ∧
    (u.activeEdge true ∧ u.tbu.tstate = .acquiring ∧ u.tbu.pendingLabel = some ⟨5, false⟩ ∧
      u.leaps.applies ⟨5, false⟩ = none ∧ 50010000 < u.tbu.c) ∧
    (v.activeEdge true ∧ v.tbu.pendingLabel = some ⟨5, false⟩ ∧ v.leaps.applies ⟨5, false⟩ = some ⟨5, .ins⟩) :=
  ⟨⟨rfl, rfl, rfl, rfl, rfl, by decide, by decide, rfl⟩, ⟨rfl, rfl, rfl, rfl, by decide⟩, ⟨rfl, rfl, by decide⟩⟩

theorem witness_PpsEdgeAccepted :
    let s := timed (fun b => { b with c := 49999900 }) bench
    let u := timed (fun b => { b with c := 100, window := .missed }) bench
    let v := timed (fun b => { b with tstate := .holdover, leaps := ⟨some ⟨1700000001, .del⟩, none⟩ }) s
    (s.activeEdge true ∧ s.tbu.timeSet = true ∧ s.tbu.c < s.tbu.nSec ∧ s.tbu.nSec - s.tbu.c ≤ s.tbu.policy.w ∧
      s.leaps.applies s.tbu.second = none) ∧
    (u.activeEdge true ∧ u.tbu.timeSet = true ∧ u.tbu.c < u.tbu.nSec ∧ u.tbu.policy.w < u.tbu.nSec - u.tbu.c ∧
      u.tbu.c ≤ u.tbu.windowW ∧ u.tbu.window ≠ .matched) ∧
    (v.activeEdge true ∧ v.tbu.timeSet = true ∧ v.tbu.tstate ≠ .locked ∧ v.tbu.nSec - v.tbu.c ≤ v.tbu.policy.w ∧
      v.leaps.applies v.tbu.second = some ⟨1700000001, .del⟩) :=
  ⟨⟨rfl, rfl, by decide, by decide, rfl⟩, ⟨rfl, rfl, by decide, by decide, by decide, by decide⟩,
    ⟨rfl, rfl, by decide, by decide, by decide⟩⟩

theorem witness_PpsEdgeRejected :
    let s := timed (fun b => { b with c := 101, stepCount := 1, candInterval := 50010000, window := .opened }) bench
    s.activeEdge true ∧ s.tbu.timeSet = true ∧ s.tbu.policy.w < s.tbu.nSec - s.tbu.c ∧ s.tbu.windowW < s.tbu.c ∧
      s.tbu.stepCount + 1 < 3 := ⟨rfl, rfl, by decide, by decide, by decide⟩

theorem witness_PhaseStepMade :
    let s := timed (fun b => { b with c := 25000001, stepCount := 2, candInterval := 49990000 }) bench
    let u := timed (fun b => { b with leaps := ⟨some ⟨1700000000, .ins⟩, none⟩ }) s
    (s.activeEdge true ∧ s.tbu.timeSet = true ∧ s.tbu.policy.w < s.tbu.nSec - s.tbu.c ∧ s.tbu.window = .matched ∧
      s.tbu.stepCount = 2 ∧ 49990000 ≤ s.tbu.candInterval ∧ s.tbu.candInterval ≤ 50010000 ∧
      s.leaps.applies s.tbu.second = none ∧ ¬ 2 * s.tbu.c ≤ s.tbu.nSec) ∧
    (u.activeEdge true ∧ u.leaps.applies u.tbu.second = some ⟨1700000000, .ins⟩ ∧
      (u.tbu.c : Int) - (u.tbu.nSec : Int) < 0) :=
  ⟨⟨rfl, rfl, by decide, rfl, rfl, by decide, by decide, rfl, by decide⟩, rfl, by decide, by decide⟩

theorem witness_SecondRolls :
    (∀ st ∈ [TimeState.locked, .holdover, .free], ∀ age ∈ [1022, 1023],
      let s := timed (fun b => { b with tstate := st, c := 49999999, holdoverAge := age }) bench
      s.tbu.timeSet = true ∧ s.tbu.nSec ≤ s.tbu.c + 1 ∧ s.leaps.applies s.tbu.second = none ∧
        [64, 256, 1024, 4096].getD s.tbu.policy.limitCode 4096 = 1024) ∧
    (timed (fun b => { b with leaps := ⟨some ⟨1700000000, .ins⟩, none⟩ }) bench).leaps.applies bench.tbu.second =
      some ⟨1700000000, .ins⟩ := by decide

theorem witness_LeapApplied :
    (∀ r ∈ [(⟨some ⟨1700000000, .ins⟩, none⟩ : Leaps), ⟨some ⟨1700000001, .del⟩, none⟩, ⟨none, none⟩],
      ∀ st ∈ [TimeState.locked, .holdover, .free],
      let s := timed (fun b => { b with tstate := st, c := 49999999, holdoverAge := 1023, leaps := r }) bench
      s.tbu.timeSet = true ∧ s.tbu.nSec ≤ s.tbu.c + 1 ∧ s.leaps.last = none ∧ s.leaps = r) ∧
    bench.tbu.second = ⟨1700000001 - 1, false⟩ := by decide

theorem witness_MissCounted :
    let s := timed (fun b => { b with c := 101, window := .opened }) bench
    let u := timed (fun b => { b with c := 101, window := .opened, missCount := 1 }) bench
    (s.tbu.tstate = .locked ∧ s.tbu.window = .opened ∧ s.tbu.windowW < s.tbu.c ∧
      s.tbu.missCount + 1 < s.tbu.policy.missLimit) ∧
    (u.tbu.tstate = .locked ∧ u.tbu.window = .opened ∧ u.tbu.windowW < u.tbu.c ∧
      u.tbu.policy.missLimit ≤ u.tbu.missCount + 1) := by decide

theorem witness_LatestInstantFound : 1 ≤ 120 ∧ 999999999 < 1000000000 := by decide

theorem witness_GridTickDelivered :
    (let s := timed (fun b => { b with c := 15000000 }) (running .running bench);
      s.tbu.timeSet = true ∧ s.tbu.newestTick = some ⟨⟨1700000000, false⟩, 0⟩ ∧ 0 < latestIndex s.fout s.tbu.ns ∧
        s.alb.runState = .running ∧ s.alb.base = some held.label ∧ s.alb.frontier = some held.label ∧
        s.alb.slots.length = 128 ∧ s.alb.basePos < 128 ∧
        s.leaps.labelBefore s.fout ⟨s.tbu.second, latestIndex s.fout s.tbu.ns⟩ held.label = false ∧
        s.leaps.labelBefore s.fout ⟨s.tbu.second, latestIndex s.fout s.tbu.ns⟩
          ⟨⟨1700000001, false⟩, 0⟩ = true) ∧
    (let s := timed (fun b => { b with second := ⟨1700000001, false⟩, newestTick := some ⟨⟨1700000000, true⟩, 9⟩ }) bench;
      s.tbu.timeSet = true ∧ (⟨1700000000, true⟩ : Second) ≠ s.tbu.second ∧
        s.leaps.later ⟨1700000000, true⟩ s.tbu.second = true) ∧
    (bench.tbu.timeSet = true ∧ bench.tbu.newestTick = some ⟨⟨1700000000, false⟩, 0⟩ ∧
      latestIndex bench.fout bench.tbu.ns ≤ 0) ∧
    (bench.leaps.later ⟨1700000001, false⟩ bench.tbu.second = false) ∧
    (∀ w, let s := timed (fun b => { b with newestTick := none, tickWaits := w }) bench;
      s.tbu.newestTick = none ∧ s.tbu.tickWaits = w) ∧
    (State.reset.tbu.timeSet = false ∧ bench.alb.runState ≠ .running) := by decide +kernel

theorem witness_SlotOpened :
    let s := streamed { unit with state := .locked, lhat := some 112400, seedMark := false } bench
    s.alb.slots.length = 128 ∧ 127 < 128 ∧ s.slotAt 127 = .vacant ∧ s.rqh.config.mode = .adaptive ∧ s.tbu.timeSet = true ∧
      State.reset.slotAt 127 = .vacant ∧ State.reset.tbu.timeSet = false ∧
      s.expectedAt ⟨⟨1700000000, false⟩, 0⟩ = [12] ∧ (s.stream 12).seedMark = false ∧ (s.stream 12).lhat = some 112400 ∧
      bench.expectedAt ⟨⟨1700000000, false⟩, 0⟩ = [] := by decide +kernel

/-- A fixed window of 1 ms: the slot of label 0 opens SEALED at 1 ms and OPEN one count before it (04 R88, 05 R97). -/
theorem test_deadline_reached :
    ([49999, 50000].map fun c =>
      let s := timed (fun b => { b with c := c }) bench
      let t := openIfVacant 5 held.label .tick { s with rqh := { s.rqh with config := { s.rqh.config with mode := .fixed, wFixed := 1 } } }
      (t.slotAt 5).isSealed) = [false, true] := by decide +kernel

theorem witness_DeadlinesSeal :
    let s := slotted 3 (.opened held) (running .running (timed (fun b => { b with c := 50000 }) bench))
    s.alb.slots.length = 128 ∧ s.tbu.timeSet = true ∧
      s.leaps.diff ⟨held.label.second, (2 * held.label.index * 1000000000 + s.fout) / (2 * s.fout)⟩
        ⟨s.tbu.second, s.tbu.c * 1000000000 / s.tbu.nSec⟩ = held.window * 1000 := by decide +kernel

theorem witness_SilenceExpires :
    (∀ other ∈ [true, false],
      let s := { timed (fun b => { b with uptime := 20000 })
        (streamed { unit with state := .locked, pathA := ⟨true, some 0, 0, 0⟩, pathB := ⟨other, some 0, 0, 0⟩ } bench)
          with fresh := 0 }
      s.streams.length = 256 ∧ s.alb.slots.length = 128 ∧ 12 < 256 ∧
        (s.stream 12).layout = some ⟨⟨9, 1000000, 0, 0, 0⟩, .pinned⟩ ∧ ((s.stream 12).path .a).up = true ∧
        ((s.stream 12).path .a).last = some 0 ∧ (s.stream 12).silenceCount * 1000000 / rateOf 9 ≤ (s.tbu.uptime - 0).toNat ∧
        ((s.stream 12).path (otherPath .a)).up = other ∧ (s.stream 12).state = .locked) := by decide +kernel

theorem witness_GoodMessageAccepted :
    bench.lki.gate = .opened ∧ bench.lki.rxMode = .hunt ∧ bench.lki.rxLine = .wait true ∧
      bench.lki.inbound.length < 32 ∧ (List.replicate 480 (0 : Byte)).length ≤ 480 := by decide +kernel

theorem witness_BadMessagesRefused :
    (bench.lki.rxMode = .hunt ∧ bench.lki.rxLine = .wait true ∧ bench.lki.gate = .opened) ∧
      0 ≠ (crc16 [0x00]).toNat ∧ 480 < (List.replicate 481 (0 : Byte)).length ∧ (0x03 : Byte) ≠ 0x01 ∧ (0x03 : Byte) ≠ 0x02 ∧
      [(0 : Byte), syncByte, 0, 0, 0, 0].getD 5 0 ≠ crc8 ([(0 : Byte), syncByte, 0, 0, 0, 0].take 5) ∧
      32 ≤ ({ bench with lki := { bench.lki with inbound := List.replicate 32 (.lengthNote 0) } } : State).lki.inbound.length ∧
      ∀ g ∈ [Gate.resetting, .closed], let s := { bench with lki := { bench.lki with gate := g } }
        s.lki.rxMode = .hunt ∧ s.lki.rxLine = .wait true ∧ s.lki.gate = g := by decide +kernel

theorem witness_TruncatedAbandons :
    (let s := timed (fun b => { b with uptime := 2000 }) { bench with lki := { bench.lki with rxMode := .header [] } };
      s.lki.rxMode ≠ .hunt ∧ s.lki.rxUnderReset = false ∧ 2000 ≤ (s.tbu.uptime - s.lki.lastByte).toNat) ∧
    (∀ m ∈ [RxMode.header [], .skip 1 none],
      let s := timed (fun b => { b with uptime := 2000 }) { bench with lki := { bench.lki with rxMode := m, rxUnderReset := true } }
      s.lki.rxMode = m ∧ s.lki.rxUnderReset = true ∧ 2000 ≤ (s.tbu.uptime - s.lki.lastByte).toNat) ∧
    (let s := { bench with lki := { bench.lki with gate := .resetting } };
      s.lki.gate = .resetting ∧ s.lki.rxMode = .hunt ∧ s.lki.rxLine = .wait true ∧ 65535 < 65536) ∧
    bench.lki.rxMode = .hunt ∧ (1999 - (0 : Uptime)).toNat < 2000 := by decide

theorem witness_UnattributedFramesDiscarded :
    ((fields 0 [0] bench).lki.inbound.head? = some (.field 0 [0]) ∧ [(0 : Byte)].length < 13) ∧
    (frameShapeGood (frame 0) = true ∧ frameCheckGood (frame 0) = true) ∧
    (frameShapeGood (List.replicate 13 1) = true ∧ frameCheckGood (List.replicate 13 1) = false) ∧
    ((2 : Byte) ≠ 0 ∧ (2 : Byte) ≠ 1) ∧ (∀ n, (field (frame 0) 0 2, n) ∉ bench.sourceMap) ∧
    (fields 0 [0] bench).ReadWith ⟨0, some ⟨⟨1700000000, false⟩, 0⟩⟩ ∧
    ((fields 0 [0] bench).setFrame (some (.taken reading))).ReadWith reading :=
  ⟨by decide, by decide +kernel, by decide +kernel, by decide, fun _ h => (by cases h),
    .inr ⟨rfl, rfl⟩, .inl rfl⟩

/-- A frame in hand, read at `reading`, of stream 12 with the record `r`. -/
def taken (b : List Byte) (r : StreamRec) : State := (fields 0 b (streamed r bench)).setFrame (some (.taken reading))

theorem taken_stream (b : List Byte) (r : StreamRec) : (taken b r).stream 12 = r := by
  rw [show (taken b r).stream 12 = (streamed r bench).stream 12 from rfl, streamed_stream]; rfl

/-- `unit` with a kept instant 20 s ahead. -/
def ahead : StreamRec := { unit with newest := some ⟨⟨1700000020, false⟩, 0, 0⟩ }

/-- Every failure of steps 6 to 10 and a LAYOUT frame out of range. -/
theorem witness_StreamErrorsCounted :
    ((taken (frame 0) unit).streams.length = 256 ∧ (taken (frame 0) unit).alb.slots.length = 128 ∧
      (taken (frame 0) unit).ReadWith reading ∧ (taken (frame 0) unit).stream 12 = unit ∧
      (taken (frame 0) unit).lookupSource 4210 = some 12) ∧
    (∀ b ∈ [frame 0, frame 1000000, frame 210000, checked (frame 0), frameAt 1700000000 0 0xC0, frameAt 1700000002 0 0x80,
        layoutAt 13 50, layoutAt 9 50, layoutAt 9 60, layoutAt 3 50],
      frameShapeGood b = true ∧ frameCheckGood b = true ∧ field b 0 2 = 4210) ∧
    (∃ c q, (taken (checked (frame 0)) unit).StreamError reading (checked (frame 0)) unit c q) ∧
    (∃ c q, (taken (frame 1000000) unit).StreamError reading (frame 1000000) unit c q) ∧
    (∃ c q, (taken (frameAt 1700000000 0 0xC0) unit).StreamError reading (frameAt 1700000000 0 0xC0) unit c q) ∧
    (∃ c q, (taken (frame 210000) unit).StreamError reading (frame 210000) unit c q) ∧
    (∃ c q, (taken (frame 0) ahead).StreamError reading (frame 0) ahead c q) ∧
    (∃ c q, (taken (frameAt 1700000002 0 0x80) unit).StreamError reading (frameAt 1700000002 0 0x80) unit c q) ∧
    (∃ c q, (taken (layoutAt 13 50) unit).StreamError reading (layoutAt 13 50) unit c q) := by
  refine ⟨⟨by decide +kernel, rfl, .inl rfl, taken_stream _ _, by decide +kernel⟩, by decide +kernel,
    ⟨_, _, .length ⟨⟨9, 1000000, 0, 0, 0⟩, .pinned⟩ (by decide +kernel) (by decide) rfl (by decide +kernel)⟩,
    ⟨_, _, .fraction ⟨⟨9, 1000000, 0, 0, 0⟩, .pinned⟩ (by decide +kernel) (by decide) rfl (by decide +kernel)
      (by decide +kernel)⟩,
    ⟨_, _, .second ⟨⟨9, 1000000, 0, 0, 0⟩, .pinned⟩ (by decide +kernel) (by decide) rfl (by decide +kernel)
      (by decide +kernel) (by decide +kernel)⟩,
    ⟨_, _, .grid ⟨⟨9, 1000000, 0, 0, 0⟩, .pinned⟩ (by decide +kernel) (by decide) rfl
      ⟨by decide +kernel, by decide +kernel, by decide +kernel⟩ (by decide +kernel)⟩,
    ⟨_, _, .order ⟨⟨9, 1000000, 0, 0, 0⟩, .pinned⟩ (by decide +kernel) (by decide) rfl
      ⟨by decide +kernel, by decide +kernel, by decide +kernel⟩ (by decide +kernel)
      fun h => absurd (h _ rfl) (by decide +kernel)⟩,
    ⟨_, _, .time ⟨⟨9, 1000000, 0, 0, 0⟩, .pinned⟩ (by decide +kernel) (by decide) rfl
      ⟨by decide +kernel, by decide +kernel, by decide +kernel⟩ (by decide +kernel) nofun
      fun h => absurd (h _ rfl) (by decide +kernel)⟩,
    ⟨_, _, .layout (by decide +kernel) (by decide +kernel)⟩⟩

/-- The LAYOUT clauses: a nominal frequency of the other strap, no layout yet, the layout held, another layout. -/
theorem witness_LayoutFrames :
    (∀ b ∈ [layoutAt 9 50, layoutAt 9 60, layoutAt 3 50], field b 2 1 = 2 ∧ field b 3 1 ≤ 12 ∧ 1 ≤ field b 4 3 ∧
      field b 7 1 ≤ 12 ∧ field b 8 1 ≤ 4 ∧ field b 9 1 ≤ 2 ∧ bench.straps.nomf = false) ∧
    (field (layoutAt 9 60) 10 1 = 110 - 50 ∧ field (layoutAt 9 50) 10 1 = 50 ∧ field (layoutAt 3 50) 10 1 = 50) ∧
    (⟨field (layoutAt 9 50) 3 1, field (layoutAt 9 50) 4 3, field (layoutAt 9 50) 7 1, field (layoutAt 9 50) 8 1,
      field (layoutAt 9 50) 9 1⟩ : Layout) = ⟨9, 1000000, 0, 0, 0⟩ ∧ field (layoutAt 3 50) 3 1 ≠ 9 := by decide +kernel

/-- A WAITING stream in STANDBY; the frame's clauses hold together and give its next state. -/
theorem witness_GoodFrameLocks (h : Obligations.GoodFrameLocks) : ∃ t, exec .fieldFrame (taken (frame 200000) unit) = .next t :=
  ⟨_, h (taken (frame 200000) unit) _ reading 0 (frame 200000) 12 .a unit ⟨⟨9, 1000000, 0, 0, 0⟩, .pinned⟩ _ _ .locked 0 true _ _
    _ _ _ _ _ _ (by decide +kernel) (by decide) rfl (.inl rfl) (by decide +kernel) (by decide +kernel) (.inl ⟨rfl, rfl⟩)
    (by decide +kernel) (by decide +kernel) (taken_stream _ _).symm rfl
    ⟨⟨by decide +kernel, by decide +kernel, by decide +kernel⟩, rfl, by decide +kernel, nofun,
      fun t e => by cases e; decide +kernel⟩ rfl rfl
    (.inr (.inl ⟨.inl rfl, rfl, rfl, rfl, rfl⟩)) rfl rfl rfl rfl rfl rfl rfl⟩

/-- With the leap record of an inserted second gone, its successor's first label is still later (01 R13, R17). -/
theorem test_tick_after_inserted :
    (out (exec .outputGridTick (timed (fun b => { b with
      second := ⟨1700000001, false⟩
      newestTick := some ⟨⟨1700000000, true⟩, 9⟩ }) bench))).tbu.newestTick = some ⟨⟨1700000001, false⟩, 0⟩ := by
  decide +kernel

/-- A label 2^31 seconds from B is not earlier, and its distance is counted forward: AHEAD (05 R94, R100). -/
theorem test_far_ahead :
    ((placeCell ⟨⟨1700000000 + 0x80000000, false⟩, 0⟩ cell (running .running (streamed unit bench))).stream 12).counters.ahead
      = 1 := by decide +kernel

/-- A frame in hand keeps its reading, whatever the uptime has become since (02 R23, 03 R57). -/
theorem test_frame_keeps_reading :
    let t := out (exec .fieldFrame (timed (fun b => { b with uptime := 70 }) (taken (frame 200000) unit)))
    (t.stream 12).pathA.last = some 0 ∧ t.fck.inHand = none ∧ t.lki.inbound = [] := by decide +kernel

theorem witness_CellStored :
    let r := running .running (streamed unit bench)
    r.streams.length = 256 ∧ r.alb.slots.length = 128 ∧ cell.stream < 256 ∧ r.alb.start = some held.label ∧
      r.alb.base = some held.label ∧ r.alb.free.head? = some 0 ∧ r.sem.cursor = .idle ∧
      (∀ h ∈ held.present, h.cell.stream ≠ cell.stream) ∧ 12 ∈ held.expected ∧ held.expectedPresent + 1 = held.expected.length ∧
      ∀ k ∈ [0, 127], let l := r.leaps.labelAdd r.fout k held.label
        r.leaps.labelBefore r.fout l held.label = false ∧ r.leaps.labelDist r.fout held.label l = (k : Int) ∧
          (r.slotAt ((r.alb.basePos + k) % 128) = .vacant ∧
            ((openIfVacant ((r.alb.basePos + k) % 128) l .frame r).slotAt ((r.alb.basePos + k) % 128)).isOpen = true) ∧
          (openIfVacant k l .frame (slotted k (.opened held) r)).slotAt ((r.alb.basePos + k) % 128) = .opened held := by
  decide +kernel

theorem witness_CellRefused :
    let s := slotted 3 (.sealed .deadline held) (slotted 5 (.opened { held with present := [⟨9, cell⟩] })
      (running .running { bench with alb := { Alb.reset with free := [] } }))
    s.streams.length = 256 ∧ s.alb.slots.length = 128 ∧ cell.stream < 256 ∧ s.rqh.config.late = .discard ∧
      s.alb.start = some held.label ∧ s.alb.base = some held.label ∧ s.alb.free = [] ∧ s.sem.late.length < 16 ∧
      s.leaps.labelBefore s.fout ⟨⟨1699999999, false⟩, 9⟩ held.label = true ∧
      (∀ k ∈ [0, 3, 5, 127], s.leaps.labelBefore s.fout (s.leaps.labelAdd s.fout k held.label) held.label = false ∧
        s.leaps.labelDist s.fout held.label (s.leaps.labelAdd s.fout k held.label) = k) ∧
      s.slotAt ((s.alb.basePos + 3) % 128) = .sealed .deadline held ∧ held.present = [] ∧
      s.slotAt ((s.alb.basePos + 5) % 128) = .opened { held with present := [⟨9, cell⟩] } := by decide +kernel

/-- The late clauses: a start label before B, FORWARD, and a full late-cell queue. -/
theorem witness_LateCells :
    let s := { running .running bench with alb := { (running .running bench).alb with start := some ⟨⟨1699999998, false⟩, 0⟩ } }
    s.leaps.labelBefore s.fout ⟨⟨1699999999, false⟩, 0⟩ ⟨⟨1699999998, false⟩, 0⟩ = false ∧
      s.leaps.labelBefore s.fout ⟨⟨1699999999, false⟩, 0⟩ held.label = true ∧
      ({ s.rqh.config with late := .forward } : Configuration).late = .forward ∧
      16 ≤ (List.replicate 16 (⟨held.label, 3, .passed, cell⟩ : LateEntry)).length := by decide +kernel

theorem witness_AheadSealsTheHorizon :
    let s := running .running bench
    s.alb.slots.length = 128 ∧ s.streams.length = 256 ∧
      (∀ l ∈ [(⟨⟨1700000012, false⟩, 8⟩, 128), ((⟨⟨1700000000 + 0x80000000, false⟩, 0⟩ : Label), 21474836480)],
        s.leaps.labelBefore s.fout l.1 held.label = false ∧ s.leaps.labelDist s.fout held.label l.1 = l.2) ∧
      (slotted 0 (.opened held) s).slotAt ((s.alb.basePos + 0) % 128) = .opened held ∧
      ((slotted 0 (.sealed .drain held) s).slotAt ((s.alb.basePos + 0) % 128)).isSealed = true := by decide +kernel

theorem witness_UnreadableRequestsRefused :
    (bench.placeFree = true ∧ bench.keptFree = true) ∧
    ({ bench with lki := { bench.lki with inbound := [.lengthNote 7] } } : State).lki.inbound.head? =
      some (.lengthNote 7) ∧
    ({ bench with lki := { bench.lki with inbound := [.request 7 []] } } : State).lki.inbound.head? =
      some (.request 7 []) ∧
    (asks 0x10 [] bench).lki.inbound.head? = some (.request 7 [0x10]) ∧
    (field [0, 0, 0, 0, 0] 4 1 = 0 ∧ [(0 : Byte), 0, 0, 0, 0].length ≠ 10 ∧ 2 ≤ field [0, 0, 0, 0, 2] 4 1) ∧
    ({ bench with lki := { bench.lki with replies := List.replicate 8 ⟨false, 0, []⟩ } } : State).placeFree = false := by
  decide +kernel

theorem witness_IdentifyAnswered : (asks 0x01 [] bench).Asked 7 0x01 [] := asks_asked rfl _ _

theorem witness_IdentitySet :
    (asks 0x02 (be 2 65535) bench).Asked 7 0x02 (be 2 65535) ∧ 65535 < 65536 := ⟨asks_asked rfl _ _, by decide⟩

/-- A part in STANDBY, one in a run, one draining, each with a free place. -/
theorem places (r : RunState) : (running r bench).placeFree = true ∧ (running r bench).alb.runState = r := ⟨rfl, rfl⟩

theorem witness_ConfigureClamps (p : List Byte) (r : RunState) :
    (asks 0x03 p (running r bench)).Asked 7 0x03 p ∧ (asks 0x03 p (running r bench)).alb.runState = r :=
  ⟨asks_asked rfl _ _, rfl⟩

theorem witness_TimePolicyTaken (p : List Byte) (w : Bool) :
    let s := timed (fun b => { b with policy := ⟨2, 100, 2, w⟩ }) bench
    (asks 0x04 p s).Asked 7 0x04 p ∧ (asks 0x04 p s).tbu.policy.written = w := ⟨asks_asked rfl _ _, rfl⟩

theorem witness_TimeLabelTaken (x : SecondLabel) (st : TimeState) (e : Option LeapEvent) (r : RunState) :
    let s := asks 0x05 (be 4 x.toNat) (timed (fun b => { b with tstate := st, leaps := ⟨e, none⟩ }) (running r bench))
    s.Asked 7 0x05 (be 4 x.toNat) ∧ s.tbu.tstate = st ∧ s.leaps.pending = e ∧ s.alb.runState = r :=
  ⟨asks_asked rfl _ _, rfl, rfl, rfl⟩

theorem witness_LeapScheduled :
    (∀ (x : SecondLabel) (code : Nat) (e l : Option LeapEvent) (r : RunState),
      let p := be 4 x.toNat ++ be 1 code
      let s := asks 0x06 p (timed (fun b => { b with leaps := ⟨e, l⟩ }) (running r bench))
      s.Asked 7 0x06 p ∧ s.tbu.timeSet = true ∧ s.tbu.second = ⟨1700000000, false⟩ ∧ s.leaps.pending = e ∧
        s.leaps.last = l ∧ s.alb.runState = r ∧ s.alb.base = some ⟨⟨1700000000, false⟩, 0⟩) ∧
    (Leaps.dist ⟨none, none⟩ ⟨1700000000, false⟩ ⟨1700000001, false⟩ < 2 ∧
      2 ≤ Leaps.dist ⟨none, none⟩ ⟨1700000000, false⟩ ⟨1700000002, false⟩ ∧
      Leaps.dist ⟨some ⟨1700000001, .ins⟩, none⟩ ⟨1700000000, false⟩ ⟨1700000001, false⟩ < 2) ∧
    (Leaps.labelAdd ⟨none, none⟩ 10 127 ⟨⟨1700000000, false⟩, 0⟩).second.label = 1700000012 ∧
    (∀ r ∈ [(⟨none, none⟩ : Leaps), ⟨some ⟨1700000013, .ins⟩, none⟩, ⟨none, some ⟨1699999999, .ins⟩⟩],
      r.later ⟨1700000012, false⟩ ⟨1700000013, false⟩ = true ∧ r.later ⟨1700000012, false⟩ ⟨1700000012, false⟩ = false ∧
        r.later ⟨1699999999, false⟩ ⟨1700000000, false⟩ = true ∧ 2 ≤ r.dist ⟨1700000000, false⟩ ⟨1700000013, false⟩) ∧
    (Leaps.later ⟨some ⟨1700000012, .ins⟩, none⟩ ⟨1700000012, false⟩ ⟨1700000012, false⟩ = false ∧
      Leaps.later ⟨none, some ⟨1700000000, .ins⟩⟩ ⟨1700000000, false⟩ ⟨1700000000, false⟩ = false) :=
  ⟨fun _ _ _ _ _ => ⟨asks_asked rfl _ _, rfl, rfl, rfl, rfl, rfl, rfl⟩, by decide +kernel⟩

theorem witness_TimeQueryReads :
    ((asks 0x07 [] busy).Asked 7 0x07 [] ∧ (asks 0x07 [] busy).tbu.Sound ∧ (asks 0x07 [] busy).tbu.holdoverAge ≤ 4294967295 ∧
      (asks 0x07 [] busy).tbu.timeSet = true) ∧
    (let s := asks 0x07 [] (timed (fun b => { b with leaps := ⟨some ⟨4294967295, .del⟩, none⟩ }) (acquiring true 50010000));
      s.Asked 7 0x07 [] ∧ s.tbu.Sound ∧ s.tbu.holdoverAge ≤ 4294967295 ∧ s.tbu.pendingLabel = some ⟨5, false⟩ ∧
        s.leaps.pending = some ⟨4294967295, .del⟩ ∧ s.leaps.last = none) ∧
    ((asks 0x07 [] State.reset).Asked 7 0x07 [] ∧ State.reset.tbu.tstate = .unset) :=
  ⟨⟨asks_asked rfl _ _, witness_TimeBaseStaysSound.1, by decide, rfl⟩,
    ⟨asks_asked rfl _ _, ⟨by decide, fun h => (by cases h), by decide, by decide, by decide, by decide, by decide, by decide,
      by decide, fun _ => rfl, fun _ => rfl, fun _ => rfl⟩, by decide, rfl, rfl, rfl⟩, asks_asked rfl _ _, rfl⟩

theorem witness_StreamDefined (p : List Byte) :
    ((asks 0x08 p bench).Asked 7 0x08 p ∧ ((asks 0x08 p bench).stream 255).state = .disabled ∧
      ∀ src m, (src, m) ∉ (asks 0x08 p bench).sourceMap) ∧
    ((asks 0x08 p (streamed unit bench)).Asked 7 0x08 p ∧
      ((asks 0x08 p (streamed unit bench)).stream 12).state ≠ .disabled ∧
      (4210, 12) ∈ (asks 0x08 p (streamed unit bench)).sourceMap) :=
  ⟨⟨asks_asked rfl _ _, (by decide +kernel : (bench.stream 255).state = .disabled), fun _ _ h => by cases h⟩,
    ⟨asks_asked rfl _ _, (by decide +kernel : ((streamed unit bench).stream 12).state ≠ .disabled),
      by simp [asks, streamed, unit]⟩⟩

theorem witness_StreamEnabledAndDisabled (k : Byte) (p : List Byte) :
    let s := asks k p { streamed { unit with state := .disabled } bench with sourceMap := [] }
    let u := asks k p (streamed unit bench)
    let v := asks k p { streamed { unit with state := .disabled } bench with sourceMap := [(4210, 3)] }
    (s.Asked 7 k p ∧ (s.stream 12).source ≠ 0 ∧ (s.stream 12).state = .disabled ∧
      ∀ m, ((s.stream 12).source, m) ∉ s.sourceMap) ∧
    (u.Asked 7 k p ∧ (u.stream 12).state ≠ .disabled ∧ u.streams.length = 256 ∧ u.alb.slots.length = 128) ∧
    (v.Asked 7 k p ∧ (v.stream 12).state = .disabled ∧ ∃ m, ((v.stream 12).source, m) ∈ v.sourceMap) :=
  ⟨⟨asks_asked rfl _ _, (by decide +kernel : ((streamed { unit with state := .disabled } bench).stream 12).source ≠ 0),
      (by decide +kernel : ((streamed { unit with state := .disabled } bench).stream 12).state = .disabled),
      fun _ h => by cases h⟩,
    ⟨asks_asked rfl _ _, (by decide +kernel : ((streamed unit bench).stream 12).state ≠ .disabled),
      (by decide +kernel : (streamed unit bench).streams.length = 256), rfl⟩,
    ⟨asks_asked rfl _ _, (by decide +kernel : ((streamed { unit with state := .disabled } bench).stream 12).state = .disabled),
      3, (by decide +kernel : (((streamed { unit with state := .disabled } bench).stream 12).source, 3) ∈ [(4210, 3)])⟩⟩

theorem witness_StreamQueryReads (n o : Nat) :
    let s := asks 0x0B (be 2 n ++ be 1 o) (streamed unit bench)
    s.Asked 7 0x0B (be 2 n ++ be 1 o) ∧ s.RecordsSound ∧ s.stream 12 = unit ∧ unit.source < 65536 ∧
      (∀ l, unit.layout = some l → l.shape.rateCode ≤ 12 ∧ l.shape.timeBase < 16777216) ∧ unit.newest = none ∧
      unit.counters = .zero :=
  ⟨asks_asked rfl _ _, witness_StreamTableStaysSound.1,
    by rw [show (asks 0x0B (be 2 n ++ be 1 o) (streamed unit bench)).stream 12 = (streamed unit bench).stream 12 from rfl,
      streamed_stream]; rfl, by decide, fun l e => by cases e; decide, rfl, rfl⟩

theorem witness_AlignStarts (r : RunState) :
    (asks 0x0C [] (running r bench)).Asked 7 0x0C [] ∧ (asks 0x0C [] (running r bench)).alb.runState = r ∧
      (asks 0x0C [] (running r bench)).tbu.timeSet = true ∧
      ((asks 0x0C [] State.reset).Asked 7 0x0C [] ∧ State.reset.tbu.timeSet = false) :=
  ⟨asks_asked rfl _ _, rfl, rfl, asks_asked rfl _ _, rfl⟩

theorem witness_AlignStops :
    (∀ r, r ≠ .draining →
      let s := asks 0x0D [] (running r busy)
      s.Asked 7 0x0D [] ∧ s.keptFree = true ∧ s.alb.RunSound ∧ s.alb.runState = r ∧ ∀ x ∈ s.alb.slots, x = .vacant) ∧
    (let s := asks 0x0D [] (slotted 0 (.sealed .deadline held) (running .draining busy));
      s.Asked 7 0x0D [] ∧ s.keptFree = true ∧ s.alb.RunSound ∧ s.alb.runState = .draining) ∧
    (let s := asks 0x0D [] (slotted 0 (.sealed .deadline held) (running .running busy));
      s.Asked 7 0x0D [] ∧ s.keptFree = true ∧ s.alb.RunSound ∧ s.alb.runState = .running ∧
        s.alb.base = some held.label ∧ s.slotAt ((s.alb.basePos + 0) % 128) = .sealed .deadline held ∧
        s.alb.drainSkipped ≤ 4294967295) ∧
    (let s := slotted 127 (.opened held) (running .running busy);
      s.slotAt ((s.alb.basePos + 127) % 128) = .opened held ∧
        ∀ i < 127, s.slotAt ((s.alb.basePos + i) % 128) = .vacant) := by
  refine ⟨fun r hr => ⟨asks_asked rfl _ _, rfl, running_sound r hr, rfl, fun x hx => List.eq_of_mem_replicate hx⟩,
    ⟨asks_asked rfl _ _, rfl, ⟨rfl, by decide, ?_, ?_, fun _ => ⟨rfl, rfl, rfl⟩⟩, rfl⟩,
    ⟨asks_asked rfl _ _, rfl, ⟨rfl, by decide, fun h => absurd rfl h, (nomatch ·), fun _ => ⟨rfl, rfl, rfl⟩⟩, rfl,
      rfl, rfl, by decide⟩, by decide +kernel⟩
  · intro _ x hx
    rcases List.mem_or_eq_of_mem_set hx with h | h
    · rw [List.eq_of_mem_replicate h]; rfl
    · rw [h]; rfl
  · exact fun _ => ⟨.sealed .deadline held, List.mem_cons_self, rfl⟩

theorem witness_BufferQueryReads (o : Nat) :
    let s := asks 0x0E (be 1 o) busy
    s.Asked 7 0x0E (be 1 o) ∧ s.alb.PoolSound ∧ s.lki.inbound.length ≤ 32 ∧ s.lki.replies.length ≤ 9 ∧
      s.ntq.records.length ≤ 32 ∧ s.sem.late.length ≤ 16 ∧ s.lki.creditLast ≤ 15 ∧ s.ntq.lost ≤ 4294967295 ∧
      s.alb.lowWater ≤ 8192 ∧ (running .running s).alb.base = some held.label ∧ held.label.index < 256 :=
  ⟨asks_asked rfl _ _, witness_PoolStaysWhole.1, (by decide : 1 ≤ 32), (by decide : 0 ≤ 9), (by decide : 0 ≤ 32),
    (by decide : 0 ≤ 16), (by decide : 0 ≤ 15), (by decide : 0 ≤ 4294967295), (by decide : 8192 ≤ 8192), rfl, by decide⟩

theorem witness_MessagesStart :
    (bench.lki.tx = none ∧ bench.pins.hrdy = true ∧ bench.lki.replies = [] ∧ bench.ntq.records = [] ∧
      bench.lki.flowPending = false ∧ bench.sem.cursor = .idle) ∧
    (replying bench).lki.replies = [⟨false, 1, [0x01]⟩] ∧
    (let s := out (exec .startupEnd (replying { State.reset with pins := ⟨true, false⟩ }));
      s.ntq.records = [⟨.resetDone .pin 0, 0, 0⟩] ∧ s.lki.replies ≠ [] ∧ s.lki.tx = none ∧ s.pins.hrdy = true) ∧
    (let s := clocked 3 (sends ⟨.flow, 0, [], none, 0, 0, false⟩ bench);
      (passCycle s).ltxd ≠ s.ltxd ∧ s.lki.tx = some ⟨.flow, 0, [], none, 0, 0, false⟩) ∧
    (noticed bench).ntq.records = [⟨.timeStep 1, 0, 0⟩] ∧
    ({ bench with lki := { bench.lki with flowPending := true } } : State).lki.flowPending = true ∧
    (lateWaiting bench).sem.late.length = 1 ∧
    (∀ e ∈ [(1, none, 40, 0), (5, none, 1, 9), (6, some 13, 36, 1), (9, some 13, 5, 8)],
      let m : TxMessage := ⟨.flow, 0, [], e.2.1, e.1, e.2.2.1, false⟩
      (sends m bench).lki.tx = some m ∧ (m.out ≤ 5 ∨ m.credit = some (0x0D : Byte).toNat) ∧ 1 ≤ m.out ∧
        m.out - 1 < 7 + m.payload.length + 2 ∧ ∃ part < 4, m.left + 4 * e.2.2.2 + part = 40) := by decide +kernel

/-- A sound link whose line changes on the next cycle. -/
theorem witness_MessagesStart_line :
    let s := clocked 3 (sends ⟨.flow, 0, [], none, 0, 0, false⟩ bench)
    s.lki.TransmitSound ∧ (passCycle s).ltxd ≠ s.ltxd := by
  refine ⟨⟨fun m h => ?_, by decide, fun m h h1 => ?_, by decide⟩, by decide +kernel⟩
  · cases h
    exact ⟨fun _ => rfl, fun _ _ => .inl rfl, by decide, by decide, rfl, nofun, nofun⟩
  · cases h
    exact absurd h1 (by decide)

/-- The bits of the first byte of a FLOW message, 0xD3, as they stand on LTXD (07 R142, R143). -/
theorem test_ltxd :
    ((List.range 10).map fun bit => (sends ⟨.flow, 0, [], none, 1, 40 - 4 * bit, false⟩ bench).ltxd) =
      [false, true, true, false, false, true, false, true, true, true] := by decide +kernel

/-- A RESET_DONE of a pin reset goes ahead of a waiting reply and carries no losses, which stay (09 R192; log 41). -/
theorem test_reset_done_first :
    let s := out (exec .startupEnd (replying { State.reset with pins := ⟨true, false⟩, ntq := ⟨[], 3⟩ }))
    let t := out (exec .noticeStart s)
    (out (exec .replyStart s)).lki = s.lki ∧ t.ntq = ⟨[⟨.resetDone .pin 0, 0, 0⟩], 3⟩ ∧
      t.lki.tx.map (fun m => field m.payload 15 4) = some 0 := by decide +kernel

/-- A message taken two cycles after a falling edge of LTXC begins its start bit on the next one (07 R142; log 35). -/
theorem test_first_bit_on_edge :
    let s := clocked 2 (sends ⟨.flow, 0, [], none, 0, 0, false⟩ bench)
    let t := txCycle (txCycle s)
    (s.ltxd, (txCycle s).ltxd, t.ltxd, t.ltxc, (txCycle s).ltxc) = (true, true, false, false, true) := by decide +kernel

theorem witness_SetFixedAtStart :
    let s := slotted 0 (.sealed .deadline held)
      (running .running { bench with sem := { Sem.reset with cursor := .offered 0 held.label } })
    s.streams.length = 256 ∧ s.lki.tx = none ∧ s.pins.hrdy = true ∧ s.lki.replies = [] ∧ s.ntq.records = [] ∧
      s.lki.flowPending = false ∧ s.sem.cursor = .offered 0 held.label ∧ s.slotAt 0 = .sealed .deadline held := by
  decide +kernel

/-- An expected stream with a hold value at age 2 below its limit 3 is HELD at age 3, at the limit ABSENT (06 R127). -/
theorem test_set_holds :
    let r : StreamRec := { unit with fill := .hold, holdLimit := 3 }
    ([2, 3].map fun age => ((streamed { r with hold := some ⟨cell, age⟩ } bench).entryOf held 12).body) =
      [.held cell 3, .absent] := by decide +kernel

theorem witness_MessagesEnd :
    (∀ c ∈ [OutClass.reply, .notice, .flow, .late],
      let s := sends (last c [0x0F, 0x00, 0x00]) bench
      s.lki.tx = some (last c [0x0F, 0x00, 0x00]) ∧ (last c [0x0F, 0x00, 0x00]).cls = c ∧
        (last c [0x0F, 0x00, 0x00]).out = 12 ∧ (last c [0x0F, 0x00, 0x00]).left = 0 ∧ s.lki.gate ≠ .resetting ∧
        s.lki.replies = [] ∧ s.ntq.records = [] ∧ s.sem.late = [] ∧ s.sem.cursor = .idle ∧
        s.lki.creditLast < min (32 - s.lki.inbound.length) 15) ∧
    (let s := sends (last .reply [0x0F, 0x00, 0x00]) { bench with lki := { bench.lki with gate := .resetting } };
      s.lki.tx = some (last .reply [0x0F, 0x00, 0x00]) ∧ s.lki.gate = .resetting) := by decide +kernel

theorem witness_EmissionEnds :
    (∀ r ∈ [RunState.running, .standby],
      let s := slotted 0 (.sealed .deadline held) (sends (last .set []) (running r bench))
      s.lki.tx = some (last .set []) ∧ (last .set []).out = 9 ∧ s.alb.slots.length = 128 ∧ s.alb.basePos < 128 ∧
        s.alb.runState = r ∧ s.alb.base = some held.label ∧ s.alb.frontier = some held.label ∧
        s.slotAt s.alb.basePos = .sealed .deadline held) ∧
    (∀ j ∈ [1, 127],
      let s := slotted j (.sealed .drain held) (slotted 0 (.sealed .deadline held)
        (sends (last .set []) (running .draining bench)))
      s.alb.runState = .draining ∧ s.alb.slots.length = 128 ∧ s.alb.basePos < 128 ∧ s.alb.base = some held.label ∧
        s.alb.drainSkipped ≤ 4294967295 ∧ (∀ x ∈ s.alb.slots, x.isOpen = false) ∧ (∃ x ∈ s.alb.slots, x.isSealed = true) ∧
        s.slotAt ((0 + j) % 128) = .sealed .drain held ∧ ∀ i < 128, 1 ≤ i → i < j → s.slotAt ((0 + i) % 128) = .vacant) ∧
    (let s := slotted 0 (.sealed .deadline held) (sends (last .set []) (running .draining bench));
      s.alb.runState = .draining ∧ (∀ q < 128, q ≠ 0 → s.slotAt q = .vacant) ∧
        ({ s.rqh with deferred := some 7 } : Rqh).deferred = some 7) := by decide +kernel

theorem witness_HrdyPausesAndResumes :
    bench.lki.tx = none ∧
    (let s := clocked 3 (sends ⟨.flow, 0, [], none, 8, 1, false⟩ { bench with pins := ⟨false, false⟩ });
      s.lki.tx = some ⟨.flow, 0, [], none, 8, 1, false⟩ ∧ 8 < ([] : List Byte).length + 9 ∧
        (s.lki.ltxcPhase + 1) % 4 = 0 ∧ s.pins.hrdy = false) ∧
    (∀ e ∈ [(4, 0), (4, 2), (5, 0), (5, 3)],
      let s := clocked e.2 (sends ⟨.flow, 0, [], none, e.1, 0, true⟩ bench)
      s.lki.tx = some ⟨.flow, 0, [], none, e.1, 0, true⟩ ∧ s.lki.ltxcPhase = e.2 ∧ s.pins.hrdy = true) := by decide +kernel

theorem witness_LatencyFilter : 0 ≤ 4000000 ∧ 4000000 ≤ 4000000 := by decide

theorem witness_GridsMeet : 1 ≤ 120 ∧ 1 ≤ 50 ∧ 119 < 120 ∧ onGrid 30 60 29 = true := by decide

/-- The lengths of the reply bodies, with a layout present and absent (10 R206). -/
theorem test_body_lengths :
    let s := slotted 3 (.sealed .deadline held) (running .running bench)
    let t := { s with sem := { s.sem with cursor := .offered 3 held.label } }
    (identifyBody s).length = 19 ∧ (labelReply s).length = 7 ∧ (leapReply s.leaps).length = 10 ∧
      (timeQueryBody s.tbu).length = 40 ∧ (stoppedBody s).length = 22 ∧ (startedBody s).length = 8 ∧
      (bufferQueryBody s).length = 130 ∧ (bufferQueryBody t).length = 130 ∧
      (streamQueryBody 12 0 unit).length = 197 ∧ (streamQueryBody 12 0 .reset).length = 197 ∧
      (layoutBytes unit.layout).length = 9 ∧ (layoutBytes none).length = 9 := by decide +kernel

/-- The whole payloads of four replies: the three opening bytes and the body of 10 R206. -/
theorem test_reply_lengths :
    let len (k : Byte) (c : Instr) (p : List Byte) := (out (exec c (asks k p bench))).lki.replies.map (·.payload.length)
    len 0x02 .setIdentity (be 2 5) = [5] ∧
      len 0x03 .configure (be 1 7 ++ be 1 1 ++ be 2 0 ++ be 2 3000 ++ be 2 300 ++ be 2 700 ++ be 2 1000 ++ be 2 5000 ++ be 1 1)
        = [19] ∧
      len 0x04 .timePolicy (be 1 0 ++ be 2 100 ++ be 1 3) = [10] ∧
      len 0x08 .streamDefine (be 2 12 ++ be 2 4210 ++ be 1 1 ++ be 1 9 ++ be 3 1000000 ++ be 1 2 ++ be 1 1 ++ be 1 1
        ++ be 1 1 ++ be 1 0 ++ be 1 3 ++ be 1 3 ++ be 1 3) = [18] ∧
      len 0x08 .streamDefine (be 2 12 ++ be 2 4210 ++ be 1 0 ++ be 1 1 ++ be 1 0 ++ be 1 3 ++ be 1 3 ++ be 1 3) = [18] := by
  decide +kernel

end Sys2Proof.Tests
end

/-! PROOF. The normalization arithmetic (04): deadlines that seal (R88), the latency filter (R80), where the grids meet
(R82). -/

namespace Sys2Proof.Machine.Normalization

/-! ### Slots under a seal (05 R106) -/

theorem slotAt_eq_vacant {s : State} {q : Nat} (h : s.alb.slots.length ≤ q) : s.slotAt q = .vacant := by
  simp [State.slotAt, h]

theorem slotAt_opened_lt {s : State} {p : Nat} {d : SlotData} (h : s.slotAt p = .opened d) : p < s.alb.slots.length := by
  rcases Nat.lt_or_ge p s.alb.slots.length with hp | hp
  · exact hp
  · rw [slotAt_eq_vacant hp] at h
    cases h

@[simp] theorem countSeal_slots (a : Alb) (c : SealCause) : (a.countSeal c).slots = a.slots := by cases c <;> rfl

/-- An offer changes the Set Emitter's cursor, never the buffer. -/
@[simp] theorem offerBase_alb (s : State) : (offerBase s).alb = s.alb := by
  unfold offerBase
  split <;> rfl

/-- What a seal does to the buffer: the slot and the counter of its cause. -/
theorem sealSlot_alb {s : State} {p : Nat} {d : SlotData} (c : SealCause) (h : s.slotAt p = .opened d) :
    (sealSlot c p s).alb = Alb.countSeal { s.alb with slots := s.alb.slots.set p (.sealed c d) } c := by
  simp only [sealSlot, h]
  split
  · exact offerBase_alb _
  · rfl

theorem sealSlot_slotAt {s : State} {p : Nat} {d : SlotData} (c : SealCause) (h : s.slotAt p = .opened d) (q : Nat) :
    (sealSlot c p s).slotAt q = if q = p then .sealed c d else s.slotAt q := by
  have hp := slotAt_opened_lt h
  simp only [State.slotAt, sealSlot_alb c h, countSeal_slots, List.getD_eq_getElem?_getD, List.getElem?_set]
  by_cases hq : q = p
  · subst hq
    simp [hp]
  · simp [hq, Ne.symm hq]

universe u

/-- `g` reads neither the slots nor the counter of a seal cause. -/
def IgnoresSeals {β : Sort u} (g : Alb → β) : Prop := ∀ a xs c, g (Alb.countSeal { a with slots := xs } c) = g a

/-- A seal takes no cell from the pool and gives none back. -/
theorem ignoresSeals_free : IgnoresSeals Alb.free := fun _ _ c => by cases c <;> rfl

/-- A seal does not move the window. -/
theorem ignoresSeals_base : IgnoresSeals Alb.base := fun _ _ c => by cases c <;> rfl

theorem sealSlot_alb_frame {β : Sort u} {g : Alb → β} (hg : IgnoresSeals g) (c : SealCause) (p : Nat) (s : State) :
    g (sealSlot c p s).alb = g s.alb := by
  cases h : s.slotAt p with
  | opened d => rw [sealSlot_alb c h, hg]
  | vacant | sealed => simp [sealSlot, h]

/-! ### Deadlines (04 R88, 05 R104) -/

theorem deadlineReached_iff (s : State) (d : SlotData) :
    s.deadlineReached d = true ↔ s.tbu.timeSet = true ∧ (d.window * 1000 : Int) ≤
      s.leaps.diff ⟨d.label.second, (2 * d.label.index * 1000000000 + s.fout) / (2 * s.fout)⟩
        ⟨s.tbu.second, s.tbu.c * 1000000000 / s.tbu.nSec⟩ := by
  unfold State.deadlineReached Tbu.localTime
  cases s.tbu.timeSet with
  | false => simp
  | true =>
    simp only [if_true, decide_eq_true_eq, true_and]
    exact Iff.rfl

/-- What a slot becomes when the local time of `s` is held against its deadline. -/
def atDeadline (s : State) : Slot → Slot
  | .opened d => if s.deadlineReached d then .sealed .deadline d else .opened d
  | x => x

/-- A slot held against its deadline once is not changed by a second time. -/
theorem atDeadline_idem (s : State) (x : Slot) : atDeadline s (atDeadline s x) = atDeadline s x := by
  cases x with
  | vacant | sealed => rfl
  | opened d => by_cases h : s.deadlineReached d = true <;> simp [atDeadline, h]

/-- Whether a deadline is reached is not a matter of the buffer, so no seal changes it for another slot. -/
theorem sealIfDue_atDeadline (p : Nat) (s : State) : atDeadline (sealIfDue p s) = atDeadline s :=
  sealIfDue_frame (f := atDeadline) (fun _ _ _ => by funext x; cases x <;> rfl) p s

theorem sealIfDue_slotAt_same (p : Nat) (s : State) : (sealIfDue p s).slotAt p = atDeadline s (s.slotAt p) := by
  cases h : s.slotAt p with
  | vacant | sealed => simp [sealIfDue, h, atDeadline]
  | opened d => by_cases hd : s.deadlineReached d = true <;> simp [sealIfDue, h, hd, atDeadline, sealSlot_slotAt _ h]

theorem sealIfDue_slotAt_ne {p q : Nat} (hq : q ≠ p) (s : State) : (sealIfDue p s).slotAt q = s.slotAt q := by
  cases h : s.slotAt p with
  | vacant | sealed => simp [sealIfDue, h]
  | opened d => by_cases hd : s.deadlineReached d = true <;> simp [sealIfDue, h, hd, hq, sealSlot_slotAt _ h]

theorem sealIfDue_alb_frame {β : Sort u} {g : Alb → β} (hg : IgnoresSeals g) (p : Nat) (s : State) :
    g (sealIfDue p s).alb = g s.alb := by
  unfold sealIfDue
  split
  · split
    · exact sealSlot_alb_frame hg _ _ _
    · rfl
  all_goals rfl

theorem sealDue_alb_frame {β : Sort u} {g : Alb → β} (hg : IgnoresSeals g) (s : State) :
    g (sealDue s).alb = g s.alb :=
  eachSlot_frame (f := fun t => g t.alb) (sealIfDue_alb_frame hg) s

/-- The positions gone through are held against their deadlines, each by the same local time; the others are left. -/
theorem foldl_sealIfDue_slotAt (pos : Nat → Nat) (ks : List Nat) (s : State) (q : Nat) :
    (ks.foldl (fun t k => sealIfDue (pos k) t) s).slotAt q =
      if q ∈ ks.map pos then atDeadline s (s.slotAt q) else s.slotAt q := by
  induction ks generalizing s with
  | nil => rfl
  | cons k ks ih =>
    rw [List.foldl_cons, ih, sealIfDue_atDeadline]
    by_cases hq : q = pos k
    · subst hq
      simp [sealIfDue_slotAt_same, atDeadline_idem]
    · simp [sealIfDue_slotAt_ne hq, hq]

/-- The window from B covers the ring (05 R94). -/
theorem mem_winPos {q : Nat} (s : State) (hq : q < 128) : q ∈ (List.range Config.slots).map s.winPos := by
  have hslots : Config.slots = 128 := rfl
  refine List.mem_map.mpr ⟨(q + 128 - s.alb.basePos % 128) % 128, List.mem_range.mpr ?_, ?_⟩
  · omega
  · simp only [State.winPos, hslots]
    omega

/-- After every due slot has sealed, each slot is what its deadline makes of it (05 R104). -/
theorem sealDue_slotAt {s : State} (hlen : s.alb.slots.length = 128) (q : Nat) :
    (sealDue s).slotAt q = atDeadline s (s.slotAt q) := by
  have hfold : (sealDue s).slotAt q = _ := foldl_sealIfDue_slotAt s.winPos (List.range Config.slots) s q
  rw [hfold]
  by_cases hq : q < 128
  · rw [if_pos (mem_winPos s hq)]
  · have hvacant : s.slotAt q = .vacant := slotAt_eq_vacant (by omega)
    simp [hvacant, atDeadline]

/-- Settles O29: the arrival is `sealDue`, which holds every slot against its deadline by the local time of the event and
leaves all that is not the buffer or the Set Emitter. -/
theorem deadlinesSeal : Obligations.DeadlinesSeal := by
  unfold Obligations.DeadlinesSeal
  intro s hlen
  refine ⟨sealDue s, rfl, fun pos => ?_, sealDue_alb_frame ignoresSeals_free s,
    sealDue_alb_frame ignoresSeals_base s, sealDue_frame (f := State.tbu) (fun _ _ _ => rfl) s,
    sealDue_frame (f := State.ntq) (fun _ _ _ => rfl) s, ?_⟩
  · rw [sealDue_slotAt hlen]
    cases s.slotAt pos with
    | vacant | sealed => rfl
    | opened d => simp only [atDeadline, deadlineReached_iff]
  · exact
      { pending := sealDue_frame (f := State.pending) (fun _ _ _ => rfl) s
        straps := sealDue_frame (f := State.straps) (fun _ _ _ => rfl) s
        fck := sealDue_frame (f := State.fck) (fun _ _ _ => rfl) s
        streams := sealDue_frame (f := State.streams) (fun _ _ _ => rfl) s
        sourceMap := sealDue_frame (f := State.sourceMap) (fun _ _ _ => rfl) s
        lki := sealDue_frame (f := State.lki) (fun _ _ _ => rfl) s
        rqh := sealDue_frame (f := State.rqh) (fun _ _ _ => rfl) s }

/-! ### The latency filter (04 R80) -/

/-- The filter in whole numbers: taking the result as a natural number loses nothing, since it is never below 0. -/
theorem filterLatency_eq (l x : Nat) : (filterLatency l x : Int) = (l : Int) + ((x : Int) - (l : Int)) / 8 := by
  unfold filterLatency
  omega

theorem sample_lhat {r : StreamRec} {l : Nat} (x : Nat) (hl : r.lhat = some l) (hseed : r.seedMark = false) :
    (r.sample x).lhat = some (filterLatency l x) := by
  simp [StreamRec.sample, hl, hseed]

theorem min_le_filterLatency (l x : Nat) : min l x ≤ filterLatency l x := by
  have := filterLatency_eq l x
  omega

theorem filterLatency_le_max (l x : Nat) : filterLatency l x ≤ max l x := by
  have := filterLatency_eq l x
  omega

/-- A sample below Lhat, by however little, moves it down. -/
theorem filterLatency_le_pred {l x : Nat} (h : x < l) : filterLatency l x ≤ l - 1 := by
  have := filterLatency_eq l x
  omega

/-- A sample above Lhat by less than 8 leaves it. -/
theorem filterLatency_eq_self {l x : Nat} (hl : l ≤ x) (hx : x ≤ l + 7) : filterLatency l x = l := by
  have := filterLatency_eq l x
  omega

/-- A sample above Lhat by 8 or more moves it up. -/
theorem succ_le_filterLatency {l x : Nat} (h : l + 8 ≤ x) : l + 1 ≤ filterLatency l x := by
  have := filterLatency_eq l x
  omega

/-- Lhat after `k` samples of `x`. -/
def latencyAfter (k x l : Nat) : Nat := (List.replicate k x).foldl filterLatency l

theorem latencyAfter_succ (k x l : Nat) : latencyAfter (k + 1) x l = latencyAfter k x (filterLatency l x) := rfl

/-- From above, equal samples bring Lhat down by at least 1 each until it stands at them. -/
theorem latencyAfter_of_le {x l : Nat} (k : Nat) (h : x ≤ l) :
    x ≤ latencyAfter k x l ∧ latencyAfter k x l ≤ max x (l - k) := by
  induction k generalizing l with
  | zero => exact ⟨h, Nat.le_max_right _ _⟩
  | succ k ih =>
    have hlow := min_le_filterLatency l x
    have hhigh : filterLatency l x ≤ max x (l - 1) := by
      rcases Nat.eq_or_lt_of_le h with rfl | hlt
      · rw [filterLatency_eq_self (Nat.le_refl x) (Nat.le_add_right x 7)]
        exact Nat.le_max_left _ _
      · exact Nat.le_trans (filterLatency_le_pred hlt) (Nat.le_max_right _ _)
    have hrest := ih (l := filterLatency l x) (by omega)
    rw [latencyAfter_succ]
    omega

/-- From below, equal samples bring Lhat up by at least 1 each until it stands at most 7 below them. -/
theorem latencyAfter_of_ge {x l : Nat} (k : Nat) (h : l ≤ x) :
    min (l + k) (x - 7) ≤ latencyAfter k x l ∧ latencyAfter k x l ≤ x := by
  induction k generalizing l with
  | zero => exact ⟨Nat.min_le_left _ _, h⟩
  | succ k ih =>
    have hhigh := filterLatency_le_max l x
    have hlow : min (l + 1) (x - 7) ≤ filterLatency l x := by
      by_cases hx : x ≤ l + 7
      · rw [filterLatency_eq_self h hx]
        omega
      · exact Nat.le_trans (Nat.min_le_left _ _) (succ_le_filterLatency (by omega))
    have hrest := ih (l := filterLatency l x) (by omega)
    rw [latencyAfter_succ]
    omega

/-- Settles O59: the one-step facts follow from the formula; a run of equal samples is within reach of them after as many
samples as the larger of the two values. -/
theorem latencyFilter : Obligations.LatencyFilter := by
  unfold Obligations.LatencyFilter
  intro l x hl hx
  refine ⟨fun r => sample_lhat x, filterLatency_eq l x, min_le_filterLatency l x, filterLatency_le_max l x,
    Nat.le_trans (filterLatency_le_max l x) (Nat.max_le.mpr ⟨hl, hx⟩), filterLatency_le_pred, filterLatency_eq_self,
    fun h => ⟨l, fun k hk => ?_⟩, fun h => ⟨x, fun k hk => ?_⟩⟩
  · have hrun := latencyAfter_of_le k h
    rw [latencyAfter] at hrun
    omega
  · have hrun := latencyAfter_of_ge k h
    rw [latencyAfter] at hrun
    omega

/-! ### Where the grids meet (04 R82) -/

theorem onGrid_iff (fout fs i : Nat) : onGrid fout fs i = true ↔ i * fs % fout = 0 := by
  simp [onGrid]

/-- A frame index and an output index stand for the same part of a second. -/
theorem onGrid_iff_exists (fout fs i : Nat) : onGrid fout fs i = true ↔ ∃ j, j * fout = i * fs := by
  rw [onGrid_iff]
  constructor
  · intro h
    exact ⟨i * fs / fout, Nat.div_mul_cancel (Nat.dvd_of_mod_eq_zero h)⟩
  · rintro ⟨j, hj⟩
    rw [← hj]
    exact Nat.mul_mod_left _ _

/-- Equal parts of a second keep inside the second. -/
theorem streamIndex_lt {fout fs i j : Nat} (hs : 1 ≤ fs) (hi : i < fout) (h : j * fout = i * fs) : j < fs := by
  have hlt : j * fout < fs * fout := by
    rw [h, Nat.mul_comm fs fout]
    exact Nat.mul_lt_mul_of_pos_right hi hs
  exact Nat.lt_of_mul_lt_mul_right hlt

/-- Frame index `j` falls on output index `i` exactly when both stand for the same part of a second. -/
theorem placed_iff {fout fs i j : Nat} (hs : 1 ≤ fs) :
    j * fout % fs = 0 ∧ j * fout / fs = i ↔ j * fout = i * fs := by
  constructor
  · rintro ⟨hmod, rfl⟩
    exact (Nat.div_mul_cancel (Nat.dvd_of_mod_eq_zero hmod)).symm
  · intro h
    rw [h]
    exact ⟨Nat.mul_mod_left _ _, Nat.mul_div_cancel _ hs⟩

/-- Index and rate scaled alike stand for the same part of a second and round to the same nanosecond. -/
theorem gridPoint_scaled (f i : Nat) {k : Nat} (hk : 1 ≤ k) : gridPoint (f * k) (i * k) = gridPoint f i := by
  have hnum : 2 * (i * k) * Config.second + f * k = (2 * i * Config.second + f) * k := by
    rw [Nat.add_mul, Nat.mul_right_comm (2 * i), Nat.mul_assoc 2 i k]
  have hden : 2 * (f * k) = 2 * f * k := (Nat.mul_assoc 2 f k).symm
  rw [gridPoint, gridPoint, hnum, hden]
  exact Nat.mul_div_mul_right _ _ hk

/-- Both grids round the same exact instant, so they give the same nanosecond. -/
theorem gridPoint_eq {fout fs i j : Nat} (hout : 1 ≤ fout) (hs : 1 ≤ fs) (h : j * fout = i * fs) :
    gridPoint fs j = gridPoint fout i :=
  calc gridPoint fs j = gridPoint (fs * fout) (j * fout) := (gridPoint_scaled fs j hout).symm
    _ = gridPoint (fout * fs) (i * fs) := by rw [h, Nat.mul_comm fs]
    _ = gridPoint fout i := gridPoint_scaled fout i hs

/-- The streams a slot of label `l` expects as it opens (05 R97). -/
theorem mem_expectedAt (s : State) (n : Nat) (l : Label) :
    n ∈ s.expectedAt l ↔ n < 256 ∧ (s.stream n).state = .locked ∧
      ∃ x, (s.stream n).layout = some x ∧ onGrid s.fout (rateOf x.shape.rateCode) l.index = true := by
  cases h : (s.stream n).layout <;> simp [State.expectedAt, StreamRec.fs, h, Config.streams]

/-- Settles O60: the test says that some frame index stands for the same part of a second, and the rest follows from that
equation. -/
theorem gridsMeet : Obligations.GridsMeet := by
  unfold Obligations.GridsMeet
  intro fout fs i hout hs hi
  refine ⟨onGrid_iff fout fs i, ?_, fun j hgrid hj => ?_, fun s n l hfout hl => ?_⟩
  · rw [onGrid_iff_exists]
    exact exists_congr fun j => ⟨fun h => ⟨streamIndex_lt hs hi h, (placed_iff hs).mpr h⟩, fun h => (placed_iff hs).mp h.2⟩
  · have hmeet : j * fout = i * fs := by
      rw [hj]
      exact Nat.div_mul_cancel (Nat.dvd_of_mod_eq_zero ((onGrid_iff fout fs i).mp hgrid))
    have hpoint := gridPoint_eq hout hs hmeet
    exact ⟨streamIndex_lt hs hi hmeet, hmeet, hpoint, fun ns => by rw [hpoint]⟩
  · rw [mem_expectedAt, hfout, hl]

end Sys2Proof.Machine.Normalization

/-! PROOF. The messages of the link (06, 07, 09, 10): how one ends, how one starts, its bytes, its bits on the line. -/

namespace Sys2Proof.Machine.Messages

/-! ### The end of a message (07 R153, R155) -/

theorem otherWaiting_eq_false (s : State) :
    s.otherWaiting = false ↔
      s.lki.replies = [] ∧ s.ntq.records = [] ∧ s.sem.late = [] ∧ ∀ p l, s.sem.cursor ≠ .offered p l := by
  cases h : s.sem.cursor <;> simp [State.otherWaiting, h, and_assoc]

/-- The FLOW flag after a message's end: it stays set, or is set as 07 R153 says. -/
theorem flowAtEnd_eq {s : State} {flow : Bool}
    (h : flow = true ↔ s.lki.flowPending = true ∨ s.otherWaiting = false ∧ s.lki.creditLast < s.credit) :
    flowAtEnd s = { s with lki := { s.lki with flowPending := flow } } := by
  by_cases hset : s.otherWaiting = false ∧ s.lki.creditLast < s.credit
  · have hflow : flow = true := h.mpr (.inr hset)
    simp [flowAtEnd, hset, hflow]
  · have hflow : flow = s.lki.flowPending := Bool.eq_iff_iff.mpr (h.trans (or_iff_left hset))
    subst hflow
    exact if_neg (by simpa using hset)

/-- The end of a message whose last byte has left the link. -/
theorem endMessage_done {s : State} {m : TxMessage} {cls : OutClass} (f : State → State) (htx : s.lki.tx = some m)
    (hcls : m.cls = cls) (hout : m.out = m.payload.length + 9) (hleft : m.left = 0) :
    endMessage cls f s = flowAtEnd (f s.txIdle) := by
  have hdue : s.endDue cls = true := by simp [State.endDue, TxMessage.done, TxMessage.total, htx, hcls, hout, hleft]
  exact if_pos hdue

/-- With the transmitter IDLE the RESET_DONE of a reset goes ahead of every record (09 R192). -/
theorem postResetDone_idle {s : State} (cause : ResetCause) (n : Nat) (h : s.lki.tx = none) :
    postResetDone cause n s = { s with
      ntq := if s.ntq.records.length < 32 then ⟨⟨.resetDone cause n, s.tbu.uptime, 0⟩ :: s.ntq.records, s.ntq.lost⟩
        else ⟨⟨.resetDone cause n, s.tbu.uptime, 0⟩ :: s.ntq.records.dropLast, min (s.ntq.lost + 1) 4294967295⟩ } := by
  have hsending : s.noticeSending = false := by simp [State.noticeSending, h]
  by_cases hroom : s.ntq.records.length < 32
  · simp [postResetDone, hsending, hroom, Nat.not_le.mpr hroom]
  · simp [postResetDone, hsending, hroom, Nat.le_of_not_lt hroom, satInc]

/-- The reply in transmission is the OK of a SOFT_RESET when its payload is that of one. -/
theorem resetReplySending_iff {s : State} {m : TxMessage} (htx : s.lki.tx = some m) (hcls : m.cls = .reply) :
    s.resetReplySending = true ↔ m.payload = [0x0F, 0x00, 0x00] := by
  simp [State.resetReplySending, htx, hcls, replyPayload, be, Status.code]

/-- The end of the SOFT_RESET's OK, with the transmitter IDLE: the gate opens and RESET_DONE stands first (07 R160). -/
theorem completeReset_idle {s : State} (h : s.lki.tx = none) :
    completeReset s = { s with
      lki := { s.lki with gate := .opened, discard := 0 }
      ntq := if s.ntq.records.length < 32 then
          ⟨⟨.resetDone .soft s.lki.discard, s.tbu.uptime, 0⟩ :: s.ntq.records, s.ntq.lost⟩
        else ⟨⟨.resetDone .soft s.lki.discard, s.tbu.uptime, 0⟩ :: s.ntq.records.dropLast,
          min (s.ntq.lost + 1) 4294967295⟩ } :=
  postResetDone_idle .soft s.lki.discard h

/-- A completed reset leaves its RESET_DONE waiting, so no FLOW flag is set. -/
theorem flowAtEnd_completeReset {s : State} (h : s.lki.tx = none) : flowAtEnd (completeReset s) = completeReset s := by
  have hwaits : (completeReset s).otherWaiting = true := by
    rw [completeReset_idle h]
    by_cases hroom : s.ntq.records.length < 32 <;> simp [State.otherWaiting, hroom]
  simp [flowAtEnd, hwaits]

theorem exec_replyEnd (s : State) : exec .replyEnd s = .next (endReply s) := rfl

theorem exec_noticeEnd (s : State) : exec .noticeEnd s = .next (endNotice s) := rfl

theorem exec_flowEnd (s : State) : exec .flowEnd s = .next (endMessage .flow id s) := rfl

theorem exec_lateEnd (s : State) : exec .lateEnd s = .next (endMessage .late endLate s) := rfl

/-- Settles O56: each end is `endMessage` with its source's effect, and the FLOW flag follows from what waits then. -/
theorem messagesEnd : Obligations.MessagesEnd := by
  unfold Obligations.MessagesEnd
  intro s m records late flow htx hout hleft hrecords hlate hflow
  have hend : ∀ {cls : OutClass} (f : State → State), m.cls = cls → endMessage cls f s = flowAtEnd (f s.txIdle) :=
    fun f hcls => endMessage_done f htx hcls hout hleft
  have hflag : ∀ t : State, t.lki = { s.lki with tx := none } → t.ntq.records = records → t.sem.late = late →
      t.sem.cursor = s.sem.cursor → flowAtEnd t = { t with lki := { t.lki with flowPending := flow } } := by
    intro t hlki hrec hsem hcur
    refine flowAtEnd_eq ?_
    rw [otherWaiting_eq_false, hrec, hsem, hcur, State.credit, hlki]
    simpa only [and_assoc] using hflow
  refine ⟨fun hcls hplain => ?_, fun hcls hgate hpayload => ?_, fun hcls => ?_, fun hcls => ?_, fun hcls => ?_⟩
  · have hcompletes : (s.lki.gate == .resetting && s.resetReplySending) = false := by
      rw [Bool.eq_false_iff, Ne, Bool.and_eq_true, resetReplySending_iff htx hcls]
      rintro ⟨hgate, hpayload⟩
      exact hplain.elim (fun h => h (eq_of_beq hgate)) (fun h => h hpayload)
    have hrun : endReply s = flowAtEnd s.txIdle := by simp [endReply, hcompletes, hend _ hcls]
    have hidle := hflag s.txIdle rfl (by simp [hrecords, hcls]) (by simp [hlate, hcls]) rfl
    rw [exec_replyEnd, hrun, hidle]
    rfl
  · have hcompletes : (s.lki.gate == .resetting && s.resetReplySending) = true := by
      simp [hgate, (resetReplySending_iff htx hcls).mpr hpayload]
    have hrun : endReply s = flowAtEnd (completeReset s.txIdle) := by simp [endReply, hcompletes, hend _ hcls]
    rw [exec_replyEnd, hrun, flowAtEnd_completeReset rfl, completeReset_idle rfl]
    rfl
  · have hrec : s.ntq.records.tail = records := by simp [hrecords, hcls]
    have hremoved := hflag { s.txIdle with ntq := { s.ntq with records := s.ntq.records.tail } } rfl hrec
      (by simp [hlate, hcls]) rfl
    subst hrec
    rw [exec_noticeEnd, endNotice, hend _ hcls]
    exact congrArg Host.Outcome.next hremoved
  · have htail : s.sem.late.tail = late := by simp [hlate, hcls]
    have hremoved := hflag (endLate s.txIdle) rfl (by simp [endLate, hrecords, hcls]) htail rfl
    subst htail
    rw [exec_lateEnd, hend _ hcls, hremoved]
    rfl
  · have hidle := hflag s.txIdle rfl (by simp [hrecords, hcls]) (by simp [hlate, hcls]) rfl
    rw [exec_flowEnd, hend id hcls, id_eq, hidle]
    rfl

/-! ### The start of a message (07 R153 to R155) -/

/-- The transmitter takes a message: nothing changes but the message in transmission. -/
theorem startMessage_begun (cls : OutClass) (tag : Byte) (payload : List Byte) (s : State) :
    startMessage cls tag payload s =
      { s with lki := { s.lki with tx := some (begun s.lki.ltxcPhase cls tag payload) } } := by
  unfold startMessage
  by_cases hedge : s.lki.ltxcPhase = 0
  · rw [beginAtEdge_edge hedge]
    simp [beginByte, begun, hedge]
  · rw [beginAtEdge_wait hedge]
    simp [begun, hedge]

theorem pinResetDone_iff (n : Notice) : n.pinResetDone = true ↔ ∃ x, n.event = .resetDone .pin x := by
  unfold Notice.pinResetDone
  split
  · next x hx => simp [hx]
  · next hne => simpa using hne

/-- The transmitter, IDLE with HRDY high, may start the class that is next. -/
theorem canStart_of_next {s : State} {cls : OutClass} (htx : s.lki.tx = none) (hrdy : s.pins.hrdy = true)
    (hnext : s.nextClass = some cls) : s.canStart cls = true := by
  simp [State.canStart, htx, hrdy, hnext]

theorem nextClass_reply {s : State} (hreply : s.lki.replies ≠ []) (hfirst : s.resetDoneFirst = false) :
    s.nextClass = some .reply := by
  simp [State.nextClass, hreply, hfirst]

theorem nextClass_notice {s : State} {n : Notice} {ns : List Notice} (hrec : s.ntq.records = n :: ns)
    (h : s.lki.replies = [] ∨ n.pinResetDone = true) : s.nextClass = some .notice := by
  rcases h with h | h <;> simp [State.nextClass, State.resetDoneFirst, hrec, h]

/-- With neither a reply nor a notice waiting, the FLOW flag comes next. -/
theorem nextClass_flow {s : State} (hreply : s.lki.replies = []) (hrec : s.ntq.records = [])
    (hflow : s.lki.flowPending = true) : s.nextClass = some .flow := by
  simp [State.nextClass, State.resetDoneFirst, hreply, hrec, hflow]

/-- A late cell waits for everything else. -/
theorem nextClass_late {s : State} (hreply : s.lki.replies = []) (hrec : s.ntq.records = [])
    (hflow : s.lki.flowPending = false) (hcursor : s.sem.cursor = .idle) (hlate : s.sem.late ≠ []) :
    s.nextClass = some .late := by
  simp [State.nextClass, State.resetDoneFirst, hreply, hrec, hflow, hcursor, hlate]

theorem resetDoneFirst_eq_false {s : State}
    (h : ∀ n, s.ntq.records.head? = some n → ∀ x, n.event ≠ .resetDone .pin x) : s.resetDoneFirst = false := by
  cases hhead : s.ntq.records.head? with
  | none => simp [State.resetDoneFirst, hhead]
  | some n =>
    have hplain : ¬ n.pinResetDone = true := fun hn => let ⟨x, hx⟩ := (pinResetDone_iff n).mp hn; h n hhead x hx
    simpa [State.resetDoneFirst, hhead] using hplain

section
variable {s : State} (htx : s.lki.tx = none) (hrdy : s.pins.hrdy = true)
include htx hrdy

/-- REPLY_START: the oldest reply leaves its queue. -/
theorem exec_replyStart {r : Reply} {rs : List Reply} (hreply : s.lki.replies = r :: rs)
    (hfirst : s.resetDoneFirst = false) :
    exec .replyStart s = .next { s with
      lki := { s.lki with replies := rs, tx := some (begun s.lki.ltxcPhase .reply r.tag r.payload) } } := by
  have hstart := canStart_of_next htx hrdy (nextClass_reply (by simp [hreply]) hfirst)
  simp only [exec, execReplyStart, startReply, hstart, if_true, hreply, startMessage_begun]

/-- NOTICE_START: the oldest record takes the lost count, unless it is the RESET_DONE of a pin reset. -/
theorem exec_noticeStart {n : Notice} {ns : List Notice} {first : Bool} (hrec : s.ntq.records = n :: ns)
    (hfirst : n.pinResetDone = first) (h : s.lki.replies = [] ∨ first = true) :
    exec .noticeStart s = .next { s with
      ntq := ⟨{ n with lost := if first = true then 0 else s.ntq.lost } :: ns, if first = true then s.ntq.lost else 0⟩
      lki := { s.lki with
        tx := some (begun s.lki.ltxcPhase .notice 0
          { n with lost := if first = true then 0 else s.ntq.lost }.bytes) } } := by
  subst hfirst
  have hstart := canStart_of_next htx hrdy (nextClass_notice hrec h)
  simp only [exec, execNoticeStart, startNotice, hstart, if_true, hrec, startMessage_begun]

/-- FLOW_START: the flag is cleared. -/
theorem exec_flowStart (hreply : s.lki.replies = []) (hrec : s.ntq.records = []) (hflow : s.lki.flowPending = true) :
    exec .flowStart s = .next { s with
      lki := { s.lki with flowPending := false, tx := some (begun s.lki.ltxcPhase .flow 0 []) } } := by
  have hstart := canStart_of_next htx hrdy (nextClass_flow hreply hrec hflow)
  simp only [exec, execFlowStart, startFlow, hstart, if_true, startMessage_begun]

/-- LATE_START: the head entry is sent and stays until the end. -/
theorem exec_lateStart {e : LateEntry} {es : List LateEntry} (hreply : s.lki.replies = []) (hrec : s.ntq.records = [])
    (hflow : s.lki.flowPending = false) (hcursor : s.sem.cursor = .idle) (hlate : s.sem.late = e :: es) :
    exec .lateStart s = .next { s with
      lki := { s.lki with tx := some (begun s.lki.ltxcPhase .late 0 (e.bytes s.rqh.identity)) } } := by
  have hstart := canStart_of_next htx hrdy (nextClass_late hreply hrec hflow hcursor (by simp [hlate]))
  simp only [exec, execLateStart, startLate, hstart, if_true, hlate, startMessage_begun]
end

/-! ### The NOTICE payload (09 R190, 10 R209, R210) -/

/-- The bytes of a notice in front of its uptime: kind, flags, stream, old and new state, value. -/
def noticeFront (e : NoticeEvent) : List Byte :=
  let (kind, stream, old, new, value) := e.fields
  be 1 kind ++ be 1 (flagBits [stream.isSome, old.isSome, new.isSome]) ++ be 1 (stream.getD 0) ++ be 1 (old.getD 0)
    ++ be 1 (new.getD 0) ++ be 4 value.toNat

theorem noticeBytes_eq (n : Notice) : n.bytes = noticeFront n.event ++ be 6 n.uptime.toNat ++ be 4 n.lost := rfl

/-- A number too large for its bytes is written modulo what they hold. -/
theorem be_mod (k n : Nat) : be k (n % 256 ^ k) = be k n := by
  induction k generalizing n with
  | zero => rfl
  | succ k ih =>
    have hlow : be k (n % 256 ^ (k + 1)) = be k n := by
      rw [← ih, Nat.mod_mod_of_dvd _ (Nat.pow_dvd_pow 256 (Nat.le_succ k)), ih]
    have htop : n % 256 ^ (k + 1) / 256 ^ k = n / 256 ^ k % 256 := by
      rw [Nat.pow_succ, Nat.mod_mul_right_div_self]
    rw [be, be, hlow, htop]
    congr 1
    exact BitVec.eq_of_toNat_eq (by simp)

/-- A value of 32 bits from a number: what does not fit its bytes is not written. -/
theorem be_ofNat (n : Nat) : be 4 (BitVec.ofNat 32 n).toNat = be 4 n := by
  rw [BitVec.toNat_ofNat]
  exact be_mod 4 n

theorem be_one (n : Nat) : be 1 n = [BitVec.ofNat 8 n] := by simp [be]

/-- A value of one byte stands in the last of four. -/
theorem be_four_small {n : Nat} (h : n < 256) : be 4 n = [0x00, 0x00, 0x00, BitVec.ofNat 8 n] := by
  have h3 : n / 256 ^ 3 = 0 := Nat.div_eq_of_lt (by omega)
  have h2 : n / 256 ^ 2 = 0 := Nat.div_eq_of_lt (by omega)
  have h1 : n / 256 ^ 1 = 0 := Nat.div_eq_of_lt (by omega)
  simp only [be, h3, h2, h1, Nat.pow_zero, Nat.div_one]
  rfl

theorem be_four_byte (b : Byte) : be 4 b.toNat = [0x00, 0x00, 0x00, b] := by
  rw [be_four_small b.isLt, BitVec.ofNat_toNat, BitVec.setWidth_eq]

/-! ### Fields behind written bytes (10 R198) -/

/-- A field that begins behind the front part of the bytes. -/
theorem field_append_of_le {front rest : List Byte} {off len : Nat} (h : front.length ≤ off) :
    field (front ++ rest) off len = field rest (off - front.length) len := by
  obtain ⟨k, rfl⟩ := Nat.exists_eq_add_of_le h
  rw [field_skip, Nat.add_sub_cancel_left]

theorem field_be_behind {k n off len : Nat} {rest : List Byte} (h : k ≤ off) :
    field (be k n ++ rest) off len = field rest (off - k) len := by
  rw [field_append_of_le (by rwa [be_length]), be_length]

/-- A machine word is read back as it was written. -/
theorem field_be_word {w : Nat} (x : BitVec w) (k : Nat) (rest : List Byte) (h : 2 ^ w ≤ 256 ^ k) :
    field (be k x.toNat ++ rest) 0 k = x.toNat := field_be k _ rest (Nat.lt_of_lt_of_le x.isLt h)

theorem field_word {w : Nat} (x : BitVec w) (k : Nat) (h : 2 ^ w ≤ 256 ^ k) : field (be k x.toNat) 0 k = x.toNat := by
  simpa using field_be_word x k [] h

/-- Items of `k` bytes each, one after the other: a field within the item at `i`. -/
theorem field_flatMap {α : Type} {f : α → List Byte} {k : Nat} (hf : ∀ a, (f a).length = k) {l : List α} {i : Nat} {a : α}
    (hi : l[i]? = some a) (rest : List Byte) {off len : Nat} (h : off + len ≤ k) :
    field (l.flatMap f ++ rest) (k * i + off) len = field (f a) off len := by
  induction l generalizing i with
  | nil => simp at hi
  | cons b l ih =>
    rw [List.flatMap_cons, List.append_assoc]
    cases i with
    | zero =>
      obtain rfl : b = a := by simpa using hi
      rw [Nat.mul_zero, Nat.zero_add, field_within _ _ _ _ (by rwa [hf])]
    | succ i =>
      have hskip : k * (i + 1) + off = (f b).length + (k * i + off) := by rw [hf, Nat.mul_succ]; omega
      rw [hskip, field_skip, ih (by simpa using hi)]

theorem length_flatMap_const {α : Type} {f : α → List Byte} {k : Nat} (hf : ∀ a, (f a).length = k) (l : List α) :
    (l.flatMap f).length = k * l.length := by
  induction l with
  | nil => rfl
  | cons a l ih => rw [List.flatMap_cons, List.length_append, hf, ih, List.length_cons, Nat.mul_succ, Nat.add_comm]

/-! ### Entries and the LATE payload (10 R207, R208) -/

/-- A phasor as the DATA frame orders it. -/
def phasorBytes (p : Phasor) : List Byte := be 4 p.magnitude.toNat ++ be 2 p.angle.toNat

theorem phasorBytes_length (p : Phasor) : (phasorBytes p).length = 6 := by simp [phasorBytes]

/-- The 22 bytes of an entry in front of its channels. -/
def entryFront (stream status : Nat) (expected : Bool) (age : Nat) (x : Cell) : List Byte :=
  be 1 stream ++ be 1 status ++ be 1 expected.toNat ++ be 2 x.source ++ be 1 (pathCode x.path) ++ be 1 x.flagBits
    ++ be 1 x.uncertainty ++ beS32 x.offset ++ be 6 x.arrival.toNat ++ be 1 x.data.phasors.length
    ++ be 1 x.data.analogs.length ++ be 1 x.data.digitals.length ++ be 1 age

theorem entryFront_length (stream status : Nat) (expected : Bool) (age : Nat) (x : Cell) :
    (entryFront stream status expected age x).length = 22 := by simp [entryFront, beS32]

theorem flagBits_eq (x : Cell) :
    x.flagBits = x.rotated.toNat + 2 * x.dataInvalid.toNat + 4 * x.trigger.toNat + 8 * x.srcUnlocked.toNat
      + 16 * x.faultedSource.toNat := by
  simp only [Cell.flagBits, flagBits]
  omega

theorem entryFront_laid {status : Nat} (hstatus : status < 256) (stream : Nat) (expected : Bool) (age : Nat) (x : Cell)
    (rest : List Byte) :
    Laid (entryFront stream status expected age x ++ rest) [(0, 1, stream % 256), (1, 1, status), (2, 1, expected.toNat),
      (3, 2, x.source % 65536), (5, 1, if x.path = .a then 0 else 1),
      (6, 1, x.rotated.toNat + 2 * x.dataInvalid.toNat + 4 * x.trigger.toNat + 8 * x.srcUnlocked.toNat
        + 16 * x.faultedSource.toNat),
      (7, 1, x.uncertainty % 256), (8, 4, (BitVec.ofInt 32 x.offset).toNat), (12, 6, x.arrival.toNat),
      (18, 1, x.data.phasors.length % 256), (19, 1, x.data.analogs.length % 256), (20, 1, x.data.digitals.length % 256),
      (21, 1, age % 256)] := by
  have hpath : pathCode x.path % 256 = if x.path = .a then 0 else 1 := by cases x.path <;> rfl
  have hflags : x.flagBits % 256 = x.flagBits := by
    have h1 := Bool.toNat_le x.rotated
    have h2 := Bool.toNat_le x.dataInvalid
    have h3 := Bool.toNat_le x.trigger
    have h4 := Bool.toNat_le x.srcUnlocked
    have h5 := Bool.toNat_le x.faultedSource
    rw [flagBits_eq]
    omega
  have hexpected : expected.toNat < 256 := Nat.lt_of_le_of_lt (Bool.toNat_le expected) (by decide)
  have hoffset : x.offset % 4294967296 < 4294967296 := Int.emod_lt_of_pos _ (by decide)
  have harrival : x.arrival.toNat < 281474976710656 := x.arrival.isLt
  simp [Laid, entryFront, beS32, field_be_behind, field_be_mod, hpath, ← flagBits_eq, hflags, Nat.mod_eq_of_lt hstatus,
    hexpected, hoffset, harrival]

/-- A field behind the first 22 bytes of an entry. -/
theorem field_entryFront (stream status : Nat) (expected : Bool) (age : Nat) (x : Cell) (rest : List Byte) (off len : Nat) :
    field (entryFront stream status expected age x ++ rest) (22 + off) len = field rest off len := by
  rw [← entryFront_length stream status expected age x, field_skip]

/-- The channels of an entry, in the order of the DATA frame. -/
theorem channels_bytes (x : Channels) :
    x.bytes = x.phasors.flatMap phasorBytes ++ (be 2 x.freqDev.toNat ++ (be 2 x.rocof.toNat ++
      (x.analogs.flatMap (fun v => be 4 v.toNat) ++ x.digitals.flatMap (fun v => be 2 v.toNat)))) := by
  simp only [Channels.bytes, List.append_assoc]
  rfl

theorem entry_bytes (stream status : Nat) (expected : Bool) (age : Nat) (x : Cell) :
    be 1 stream ++ be 1 status ++ be 1 expected.toNat ++ x.entryBytes age =
      entryFront stream status expected age x ++ x.data.bytes := by
  simp only [Cell.entryBytes, entryFront, List.append_assoc]

/-- A field behind the phasors. -/
theorem field_phasors (l : List Phasor) (rest : List Byte) (off len : Nat) :
    field (l.flatMap phasorBytes ++ rest) (6 * l.length + off) len = field rest off len := by
  rw [← length_flatMap_const phasorBytes_length, field_skip]

/-- A field behind the phasors, the frequency deviation and its rate of change. -/
theorem field_analogs (x : Channels) (off len : Nat) :
    field x.bytes (6 * x.phasors.length + (4 + off)) len =
      field (x.analogs.flatMap (fun v => be 4 v.toNat) ++ x.digitals.flatMap (fun v => be 2 v.toNat)) off len := by
  rw [channels_bytes, field_phasors, field_be_behind (by omega), field_be_behind (by omega)]
  congr 1
  omega

/-- A PRESENT or HELD entry stands as 10 R207 and R208 lay it out. -/
theorem entry_laid {status : Nat} (hstatus : status < 256) (stream : Nat) (expected : Bool) (age : Nat) (x : Cell) :
    EntryLaid (be 1 stream ++ be 1 status ++ be 1 expected.toNat ++ x.entryBytes age) stream status expected age x := by
  have hanalog : ∀ v : BitVec 32, (be 4 v.toNat).length = 4 := fun v => be_length 4 _
  have hdigital : ∀ v : BitVec 16, (be 2 v.toNat).length = 2 := fun v => be_length 2 _
  have hfreq : field x.data.bytes (6 * x.data.phasors.length) 2 = x.data.freqDev.toNat := by
    rw [channels_bytes]
    exact (field_phasors _ _ 0 2).trans (field_be_word _ 2 _ (by decide))
  have hrocof : field x.data.bytes (6 * x.data.phasors.length + 2) 2 = x.data.rocof.toNat := by
    rw [channels_bytes, field_phasors, field_be_behind (by decide)]
    exact field_be_word _ 2 _ (by decide)
  rw [entry_bytes]
  refine ⟨?_, ?_, fun i p hp => ?_, fun i v hv => ?_, fun i v hv => ?_⟩
  · rw [List.length_append, entryFront_length, channels_bytes]
    simp only [List.length_append, length_flatMap_const phasorBytes_length, length_flatMap_const hanalog,
      length_flatMap_const hdigital, be_length]
    omega
  · refine List.forall_mem_append.mpr ⟨entryFront_laid hstatus stream expected age x _, ?_⟩
    have hbehind := field_entryFront stream status expected age x x.data.bytes
    simp only [List.forall_mem_cons, List.not_mem_nil, false_implies, implies_true, and_true]
    refine ⟨(hbehind _ 2).trans hfreq, ?_⟩
    rw [show 24 + 6 * x.data.phasors.length = 22 + (6 * x.data.phasors.length + 2) by omega]
    exact (hbehind _ 2).trans hrocof
  · have hmag : field x.data.bytes (6 * i + 0) 4 = p.magnitude.toNat := by
      rw [channels_bytes, field_flatMap phasorBytes_length hp _ (by decide)]
      exact field_be_word _ 4 _ (by decide)
    have hangle : field x.data.bytes (6 * i + 4) 2 = p.angle.toNat := by
      rw [channels_bytes, field_flatMap phasorBytes_length hp _ (by decide), phasorBytes, field_be_behind (by decide)]
      exact field_word _ 2 (by decide)
    simp only [Laid, List.forall_mem_cons, List.not_mem_nil, false_implies, implies_true, and_true]
    refine ⟨(field_entryFront stream status expected age x _ (6 * i) 4).trans hmag, ?_⟩
    rw [show 26 + 6 * i = 22 + (6 * i + 4) by omega, field_entryFront, hangle]
  · rw [show 26 + 6 * x.data.phasors.length + 4 * i = 22 + (6 * x.data.phasors.length + (4 + (4 * i + 0))) by omega,
      field_entryFront, field_analogs, field_flatMap hanalog hv _ (by decide)]
    exact field_word v 4 (by decide)
  · have hitem := field_flatMap hdigital hv [] (off := 0) (len := 2) (by decide)
    rw [List.append_nil] at hitem
    rw [show 26 + 6 * x.data.phasors.length + 4 * x.data.analogs.length + 2 * i =
        22 + (6 * x.data.phasors.length + (4 + (4 * x.data.analogs.length + (2 * i + 0)))) by omega,
      field_entryFront, field_analogs, ← length_flatMap_const hanalog, field_skip, hitem]
    exact field_word v 2 (by decide)

/-- A LATE payload: ten bytes and the entry of its cell (06 R136, 10 R207). -/
theorem late_laid (identity : Nat) (e : LateEntry) :
    Laid (e.bytes identity) [(0, 2, identity % 65536), (2, 4, e.label.second.label.toNat),
        (6, 1, e.label.second.inserted.toNat), (7, 1, e.label.index % 256), (8, 1, e.rateCode % 256),
        (9, 1, if e.kind = .passed then 0 else 1)] ∧
      10 ≤ (e.bytes identity).length ∧ EntryLaid ((e.bytes identity).drop 10) e.cell.stream 0 false 0 e.cell := by
  have hentry := entry_laid (status := 0) (by decide) e.cell.stream false 0 e.cell
  have hkind : e.kind.code % 256 = if e.kind = .passed then 0 else 1 := by cases e.kind <;> rfl
  have hinserted : e.label.second.inserted.toNat < 256 := Nat.lt_of_le_of_lt (Bool.toNat_le _) (by decide)
  have hlabel : e.label.second.label.toNat < 4294967296 := e.label.second.label.isLt
  refine ⟨?_, ?_, ?_⟩
  · simp [Laid, LateEntry.bytes, Label.bytes, field_be_behind, field_be_mod, hkind, hinserted, hlabel]
  · simp [LateEntry.bytes, Label.bytes]
    omega
  · have hdrop : (e.bytes identity).drop 10 = SetEntry.bytes ⟨e.cell.stream, false, .present e.cell⟩ :=
      List.drop_left' (by simp [Label.bytes])
    rw [hdrop]
    exact hentry

/-! ### The line (07 R142, R143) -/

/-- A message on the line, byte by byte (10 R200). -/
theorem messageBytes_eq (cls tag : Byte) (credit : Nat) (payload : List Byte) :
    messageBytes cls tag credit payload =
      [0xD3, cls, tag, BitVec.ofNat 8 (payload.length / 256), BitVec.ofNat 8 payload.length, BitVec.ofNat 8 credit,
        crc8 [cls, tag, BitVec.ofNat 8 (payload.length / 256), BitVec.ofNat 8 payload.length, BitVec.ofNat 8 credit]]
      ++ payload ++ [BitVec.ofNat 8 ((crc16 payload).toNat / 256), BitVec.ofNat 8 (crc16 payload).toNat] := by
  simp [messageBytes, headerBody, be, syncByte]

/-- The bytes in front of the credit byte do not depend on it. -/
theorem messageBytes_credit {i : Nat} (h : i < 5) (cls tag : Byte) (a b : Nat) (payload : List Byte) :
    (messageBytes cls tag a payload)[i]? = (messageBytes cls tag b payload)[i]? := by
  rw [messageBytes_eq, messageBytes_eq]
  match i, h with
  | 0, _ | 1, _ | 2, _ | 3, _ | 4, _ => rfl

/-- The line is high at rest, in a pause and at every byte boundary. -/
theorem ltxd_rest {s : State} (h : ∀ m, s.lki.tx = some m → m.left = 0) : s.ltxd = true := by
  unfold State.ltxd
  split
  · rfl
  · exact if_pos (h _ ‹_›)

/-- While a byte goes out the line has the level of its bit. -/
theorem ltxd_bit {s : State} {m : TxMessage} {v : Byte} {bit part : Nat} (htx : s.lki.tx = some m)
    (hv : (messageBytes m.cls.code m.tag (m.credit.getD 0) m.payload)[m.out - 1]? = some v)
    (hsum : m.left + 4 * bit + part = 40) (hpart : part < 4) (hbit : bit < 10) :
    s.ltxd = (lineByte v).getD bit true := by
  have hleft : m.left ≠ 0 := by omega
  have hcount : (Config.byteCycles - m.left) / 4 = bit := by
    have : Config.byteCycles = 40 := rfl
    omega
  simp only [State.ltxd, htx, if_neg hleft, hcount, List.getD_eq_getElem?_getD, hv, Option.getD_some]

/-- Off the falling edge of LTXC the line keeps its level. -/
theorem ltxd_counted {s t : State} (hsound : s.lki.TransmitSound) (hphase : s.lki.ltxcPhase ≠ 3)
    (ht : t.lki.tx = s.lki.tx.map fun m => { m with left := m.left - 1 }) : t.ltxd = s.ltxd := by
  cases htx : s.lki.tx with
  | none => simp [State.ltxd, ht, htx]
  | some m =>
    have hclock := hsound.clock
    have hcycles : m.left ≤ 40 := (hsound.message m htx).cycles
    have hedges := hsound.edges m htx
    by_cases hleft : m.left = 0
    · simp [State.ltxd, ht, htx, hleft]
    · have hon : m.left - 1 ≠ 0 := by omega
      have hsame : (Config.byteCycles - (m.left - 1)) / 4 = (Config.byteCycles - m.left) / 4 := by
        have : Config.byteCycles = 40 := rfl
        omega
      simp only [State.ltxd, ht, htx, Option.map_some, if_neg hleft, if_neg hon, hsame]

/-! ### The REFCLK cycle -/

theorem beginByte_ltxcPhase (m : TxMessage) (s : State) : (beginByte m s).lki.ltxcPhase = s.lki.ltxcPhase := by
  unfold beginByte
  split <;> rfl

theorem txAdvance_ltxcPhase (edge : Bool) (s : State) : (txAdvance edge s).lki.ltxcPhase = s.lki.ltxcPhase := by
  fun_cases txAdvance edge s <;> simp [beginByte_ltxcPhase]

theorem txCycle_ltxcPhase (s : State) : (txCycle s).lki.ltxcPhase = (s.lki.ltxcPhase + 1) % 4 := by
  simp [txCycle, txAdvance_ltxcPhase]

theorem txCycle_tx {s : State} (h : (s.lki.ltxcPhase + 1) % 4 ≠ 0) :
    (txCycle s).lki.tx = s.lki.tx.map fun m => { m with left := m.left - 1 } := by
  have hedge : ((s.lki.ltxcPhase + 1) % 4 == 0) = false := by simpa using h
  simp [txCycle, hedge, txAdvance_no_edge]

/-- The transmitter's part of a cycle looks at the link and the pins alone. -/
theorem txCycle_lki_congr {s t : State} (hlki : t.lki = s.lki) (hpins : t.pins = s.pins) :
    (txCycle t).lki = (txCycle s).lki := by
  obtain ⟨⟩ := s
  obtain ⟨⟩ := t
  cases hlki
  cases hpins
  simp only [txCycle, txAdvance, beginByte, State.credit]
  split
  · rfl
  · split
    · rfl
    · split
      · rfl
      · split
        · split <;> rfl
        · rfl

theorem commonCycle_lki (s : State) : (commonCycle s).lki = (txCycle s).lki := txCycle_lki_congr rfl rfl

theorem plainCycle_lki (s : State) : (plainCycle s).lki = (txCycle s).lki := txCycle_lki_congr rfl rfl

theorem applyLeap_lki (x : Second) (s : State) : (applyLeap x s).lki = s.lki := by
  unfold applyLeap
  split <;> simp

theorem freeAtLimit_lki (s : State) : (freeAtLimit s).lki = s.lki := by
  unfold freeAtLimit
  split
  · rw [enterState_eq]
  · rfl

/-- A REFCLK cycle moves the link as the transmitter's part of it says, whether or not it ends the second. -/
theorem passCycle_lki (s : State) : (passCycle s).lki = (txCycle s).lki := by
  unfold passCycle
  split
  · calc (rolloverCycle s).lki
        = (freeAtLimit (rollover false (commonCycle s))).lki :=
          localTimeChanged_frame (f := State.lki) (fun _ _ _ => rfl) (fun _ _ => rfl) _ _
      _ = (rollover false (commonCycle s)).lki := freeAtLimit_lki _
      _ = (commonCycle s).lki := applyLeap_lki _ _
      _ = (txCycle s).lki := commonCycle_lki s
  · exact plainCycle_lki s

theorem passCycle_ltxcPhase (s : State) : (passCycle s).lki.ltxcPhase = (s.lki.ltxcPhase + 1) % 4 := by
  rw [passCycle_lki, txCycle_ltxcPhase]

/-- The line changes on the falling edge of LTXC alone. -/
theorem ltxcPhase_of_ltxd_change {s : State} (hsound : s.lki.TransmitSound) (h : (passCycle s).ltxd ≠ s.ltxd) :
    s.lki.ltxcPhase = 3 := by
  refine Decidable.byContradiction fun hphase => ?_
  have hclock := hsound.clock
  refine h (ltxd_counted hsound hphase ?_)
  rw [passCycle_lki, txCycle_tx (by omega)]

/-- The byte that goes out is that of the message with its credit, which the bytes before it do not need. -/
theorem sentByte {m : TxMessage} {credit : Nat} {v : Byte} (hcredit : m.out ≤ 5 ∨ m.credit = some credit)
    (hout : 1 ≤ m.out) (hv : (messageBytes m.cls.code m.tag credit m.payload)[m.out - 1]? = some v) :
    (messageBytes m.cls.code m.tag (m.credit.getD 0) m.payload)[m.out - 1]? = some v := by
  rcases hcredit with hbefore | hcredit
  · rw [messageBytes_credit (by omega), hv]
  · rw [hcredit, Option.getD_some, hv]

theorem lineByte_data (v : Byte) {i : Nat} (h : i < 8) : (lineByte v).getD (i + 1) true = v.getLsbD i := by
  match i, h with
  | 0, _ | 1, _ | 2, _ | 3, _ | 4, _ | 5, _ | 6, _ | 7, _ => rfl

/-- Settles O54: a start is `startMessage` with its payload, the payloads and the line are laid out byte by byte, and the
line moves only where the transmitter begins a bit, which is on a falling edge of LTXC. -/
theorem messagesStart : Obligations.MessagesStart := by
  unfold Obligations.MessagesStart
  intro s
  refine ⟨fun htx hrdy => ⟨fun r rs hreply hfirst => ?_, fun n ns first hrec hfirst h => ?_, fun hreply hrec hflow => ?_,
    fun e es hreply hrec hflow hcursor hlate => ?_⟩, rfl, rfl, rfl, passCycle_ltxcPhase s, fun hsound hchange => ?_,
    fun htx => ltxd_rest (by simp [htx]), fun m htx hleft => ltxd_rest fun m' htx' => ?_,
    fun m cls hi lo cr v bit part htx _ hcls hhi hlo hcredit hout hv hsum hpart hbit => ?_⟩
  · exact exec_replyStart htx hrdy hreply (resetDoneFirst_eq_false hfirst)
  · have hpin : n.pinResetDone = first := Bool.eq_iff_iff.mpr ((pinResetDone_iff n).trans hfirst.symm)
    rw [exec_noticeStart htx hrdy hrec hpin h, noticeBytes_eq]
    congr 7
    -- The nine bytes in front of the uptime are left, kind by kind (09 R190).
    cases n.event with
    | timeState old new x => simp only [noticeFront, NoticeEvent.fields, be_one]; rfl
    | timeStep d => rfl
    | leap dir x => cases dir <;> rfl
    | streamState k old new cause =>
      simp only [noticeFront, NoticeEvent.fields, be_one, be_ofNat]; cases cause <;> rfl
    | pathState k was up p =>
      simp only [noticeFront, NoticeEvent.fields, be_one, be_ofNat]
      cases p <;> cases was <;> cases up <;> rfl
    | layoutChange k rate | layoutMismatch k rate => simp only [noticeFront, NoticeEvent.fields, be_one, be_ofNat]; rfl
    | unknownSource x => simp only [noticeFront, NoticeEvent.fields, be_ofNat]; rfl
    | linkOverrun cls => simp only [noticeFront, NoticeEvent.fields, be_ofNat, be_four_byte]; rfl
    | sealPressure k cause => simp only [noticeFront, NoticeEvent.fields, be_one, be_ofNat]; cases cause <;> rfl
    | resetDone cause x => simp only [noticeFront, NoticeEvent.fields, be_ofNat]; cases cause <;> rfl
  · exact exec_flowStart htx hrdy hreply hrec hflow
  · exact ⟨_, exec_lateStart htx hrdy hreply hrec hflow hcursor hlate, late_laid _ e⟩
  · have hphase := ltxcPhase_of_ltxd_change hsound hchange
    simp [State.ltxc, passCycle_ltxcPhase, hphase]
  · rw [htx] at htx'
    cases htx'
    exact hleft
  · have hcode : m.cls.code = cls := by rw [hcls]; cases m.cls <;> rfl
    have hbyte := sentByte hcredit hout (by rw [hcode, messageBytes_eq, ← hhi, ← hlo]; simpa using hv)
    rw [ltxd_bit htx hbyte hsum hpart hbit]
    refine ⟨?_, ?_, ?_⟩
    · rintro rfl
      rfl
    · rintro i rfl hi
      exact lineByte_data v hi
    · rintro rfl
      rfl

end Sys2Proof.Machine.Messages

/-! PROOF. Requests and their replies (08): the identity (R165, R166), the look at the whole part (R180, R181). -/

namespace Sys2Proof.Machine.Replies

open Messages

/-! ### A request served, by what its body answers (08 R161) -/

section
variable {s t : State} {tag k : Byte} {p : List Byte} {body : Byte → List Byte → State → State × Answer}

theorem serve_ok {b : List Byte} (h : s.Asked tag k p) (hk : k ≠ 0x0D) (hbody : body tag p s = (t, .ok b)) :
    serve k body s = t.replied tag k .ok 0 b := by
  rw [serve_asked h (absurd · hk), hbody, State.answer_ok]

theorem serve_refuse {x : Status} {d : Nat} (h : s.Asked tag k p) (hk : k ≠ 0x0D)
    (hbody : body tag p s = (t, .refuse x d)) : serve k body s = t.replied tag k x d [] := by
  rw [serve_asked h (absurd · hk), hbody, State.answer_refuse]

end

theorem field_be_self {k n : Nat} (h : n < 256 ^ k) : field (be k n) 0 k = n := by
  simpa using field_be k n [] h

/-! ### The identity (08 R165, R166) -/

theorem straps_bits (x : Straps) : x.bits = x.nomf.toNat + 2 * x.ppspol.toNat + 16 * x.outr := rfl

/-- The body of an IDENTIFY reply, byte by byte (10 R206): what the part is, then the settings, then the capacities. -/
theorem identifyBody_eq (s : State) :
    identifyBody s = [0x0E, 0x71, 0x02, 0xCC, 0x01] ++ be 2 s.rqh.identity
      ++ [BitVec.ofNat 8 (s.rqh.idWritten.toNat + 2 * s.tbu.policy.written.toNat),
        BitVec.ofNat 8 (s.straps.nomf.toNat + 2 * s.straps.ppspol.toNat + 16 * s.straps.outr),
        0x01, 0x00, 0x80, 0x20, 0x00, 0x20, 0x01, 0xE0, 0x20, 0x10] := by
  have hcodes : be 2 0x0E71 ++ be 2 716 ++ be 1 1 = [0x0E, 0x71, 0x02, 0xCC, 0x01] := by decide
  have hcapacities : be 2 Config.streams ++ be 1 Config.slots ++ be 2 Config.cells ++ be 1 Config.inbound
      ++ be 2 Config.payloadLimit ++ be 1 Config.notices ++ be 1 Config.lateCells =
      [0x01, 0x00, 0x80, 0x20, 0x00, 0x20, 0x01, 0xE0, 0x20, 0x10] := by decide
  rw [identifyBody, hcodes, straps_bits, be_one (flagBits _), be_one (_ + _)]
  simp only [List.append_assoc] at hcapacities ⊢
  rw [hcapacities]
  rfl

/-- Settles O41: IDENTIFY has no fields, so the request at the head has the right length and its body is all that happens. -/
theorem identifyAnswered : Obligations.IdentifyAnswered := by
  unfold Obligations.IdentifyAnswered
  intro s tag h
  rw [← identifyBody_eq]
  exact congrArg Host.Outcome.next (serve_ok h (by decide) (ofLength_eq rfl s _))

/-- Settles O42: the three outcomes are the branches of `setIdentity`, on the value as its two bytes give it back. -/
theorem identitySet : Obligations.IdentitySet := by
  unfold Obligations.IdentitySet
  intro s tag v hv h
  have hbody : ofLength 2 (be 2 v) s (setIdentity (field (be 2 v) 0 2) s) = setIdentity v s := by
    rw [ofLength_eq (be_length 2 v), field_be_self hv]
  refine congrArg Host.Outcome.next ?_
  split
  case isTrue hzero => exact serve_refuse h (by decide) (hbody.trans (if_pos hzero))
  case isFalse hzero =>
    have hset := hbody.trans (if_neg hzero)
    split
    case isTrue hwritten => exact serve_refuse h (by decide) (hset.trans (if_pos hwritten))
    case isFalse hwritten => exact serve_ok h (by decide) (hset.trans (if_neg hwritten))

/-! ### The body of BUFFER_QUERY in its five parts (08 R180, 10 R206) -/

/-- The first 28 bytes: the run state, the three labels, the slots and the pool. -/
def runPart (a : Alb) : List Byte :=
  be 1 a.runState.code ++ (optLabelBytes a.start ++ (optLabelBytes a.base ++ (optLabelBytes a.frontier ++
    (be 1 a.openCount ++ (be 1 (a.slots.countP Slot.isSealed) ++ (be 2 a.free.length ++ be 2 a.lowWater))))))

/-- The ten counters of slots, SETs and LATE messages. -/
def setCounts (s : State) : List Nat :=
  [s.alb.openedTick, s.alb.openedFrame, s.alb.sealedComplete, s.alb.sealedDeadline, s.alb.sealedHorizon,
    s.alb.sealedPool, s.alb.sealedDrain, s.alb.drainSkipped, s.sem.setsSent, s.sem.lateSent]

/-- The eight bytes of late cells and cursor. -/
def cursorPart (e : Sem) : List Byte := be 1 e.late.length ++ (be 1 e.cursor.code ++ e.cursor.labelBytes)

/-- The eleven counters of the Frame Checker and the link. -/
def linkCounts (s : State) : List Nat :=
  [s.fck.malformed, s.fck.checkError, s.fck.badPath, s.fck.unknownSource, s.lki.headerError, s.lki.unknownClass,
    s.lki.tooLong, s.lki.truncated, s.lki.checkError, s.lki.overrun, s.lki.accepted]

/-- The last ten bytes: what waits in the queues, the credit last sent, the deferred reply. -/
def waitingPart (s : State) : List Byte :=
  be 1 (s.lki.inbound.length - 1) ++ (be 1 s.lki.replies.length ++ (be 1 s.lki.creditLast ++
    (be 1 s.ntq.records.length ++ (be 4 s.ntq.lost ++
      (be 1 s.rqh.deferred.isSome.toNat ++ be 1 (s.rqh.deferred.getD 0).toNat)))))

theorem bufferQueryBody_eq (s : State) :
    bufferQueryBody s = runPart s.alb ++ ((setCounts s).flatMap (be 4) ++ (cursorPart s.sem ++
      ((linkCounts s).flatMap (be 4) ++ waitingPart s))) := by
  simp only [bufferQueryBody, Alb.bytes, Sem.bytes, Fck.bytes, Lki.bytes, runPart, setCounts, cursorPart, linkCounts,
    waitingPart, Alb.openCount, List.flatMap_cons, List.flatMap_nil, List.append_assoc, List.nil_append]

theorem runPart_length (a : Alb) : (runPart a).length = 28 := by simp [runPart]

theorem words_length (l : List Nat) : (l.flatMap (be 4)).length = 4 * l.length := length_flatMap_const (be_length 4) l

theorem cursor_labelBytes_length (c : Cursor) : c.labelBytes.length = 6 := by
  cases c <;> simp [Cursor.labelBytes, Label.bytes]

theorem cursorPart_length (e : Sem) : (cursorPart e).length = 8 := by simp [cursorPart, cursor_labelBytes_length]

theorem bufferQueryBody_length (s : State) : (bufferQueryBody s).length = 130 := by
  rw [bufferQueryBody_eq]
  simp [runPart_length, cursorPart_length, setCounts, linkCounts, waitingPart]

/-! Where a part's field stands in the body. -/

theorem field_runPart (s : State) {off len : Nat} (h : off + len ≤ 28) :
    field (bufferQueryBody s) off len = field (runPart s.alb) off len := by
  rw [bufferQueryBody_eq, field_within _ _ _ _ (by rwa [runPart_length])]

theorem field_afterRun (s : State) (off len : Nat) :
    field (bufferQueryBody s) (28 + off) len = field ((setCounts s).flatMap (be 4) ++ (cursorPart s.sem ++
      ((linkCounts s).flatMap (be 4) ++ waitingPart s))) off len := by
  rw [bufferQueryBody_eq, ← runPart_length s.alb, field_skip]

theorem field_afterSetCounts (s : State) (off len : Nat) :
    field (bufferQueryBody s) (68 + off) len =
      field (cursorPart s.sem ++ ((linkCounts s).flatMap (be 4) ++ waitingPart s)) off len := by
  have hfront : ((setCounts s).flatMap (be 4)).length = 40 := words_length _
  rw [show 68 + off = 28 + (40 + off) by omega, field_afterRun, ← hfront, field_skip]

theorem field_afterCursor (s : State) (off len : Nat) :
    field (bufferQueryBody s) (76 + off) len = field ((linkCounts s).flatMap (be 4) ++ waitingPart s) off len := by
  rw [show 76 + off = 68 + (8 + off) by omega, field_afterSetCounts, ← cursorPart_length s.sem, field_skip]

theorem field_waitingPart (s : State) (off len : Nat) :
    field (bufferQueryBody s) (120 + off) len = field (waitingPart s) off len := by
  have hfront : ((linkCounts s).flatMap (be 4)).length = 44 := words_length _
  rw [show 120 + off = 76 + (44 + off) by omega, field_afterCursor, ← hfront, field_skip]

/-! What stands there. -/

/-- A word among words is read back. -/
theorem field_words {l : List Nat} {i v : Nat} (hi : l[i]? = some v) (hv : v ≤ 4294967295) (rest : List Byte) :
    field (l.flatMap (be 4) ++ rest) (4 * i) 4 = v :=
  (field_flatMap (be_length 4) hi rest (off := 0) (by decide)).trans (field_be_self (by omega))

theorem field_optLabel_behind {x : Option Label} {rest : List Byte} {off len : Nat} (h : 7 ≤ off) :
    field (optLabelBytes x ++ rest) off len = field rest (off - 7) len := by
  rw [field_append_of_le (by rwa [optLabelBytes_length]), optLabelBytes_length]

theorem runPart_laid {a : Alb} (hpool : a.PoolSound) (hlow : a.lowWater ≤ 8192) :
    Laid (runPart a) [(0, 1, a.runState.code), (22, 1, a.openCount), (23, 1, a.slots.countP Slot.isSealed),
      (24, 2, a.free.length), (26, 2, a.lowWater)] := by
  have hcode : a.runState.code < 256 := by cases a.runState <;> decide
  have hslots : a.slots.length = 128 := hpool.slots
  have hopen : a.openCount < 256 := by
    have : a.openCount ≤ a.slots.length := List.countP_le_length
    omega
  have hsealed : a.slots.countP Slot.isSealed < 256 := by
    have : a.slots.countP Slot.isSealed ≤ a.slots.length := List.countP_le_length
    omega
  have hfree : a.free.length < 65536 := by
    have hcells : a.numbers.length = 8192 := by simpa using hpool.cells.length_eq
    have : a.numbers.length = _ := List.length_append
    omega
  have hlast := field_be_self (k := 2) (n := a.lowWater) (by omega)
  simp [Laid, runPart, field_be_mod, field_be_behind, field_optLabel_behind, Nat.mod_eq_of_lt, hcode, hopen, hsealed,
    hfree, hlast]

theorem cursorPart_laid {e : Sem} (hlate : e.late.length ≤ 16) :
    Laid (cursorPart e) [(0, 1, e.late.length), (1, 1, e.cursor.code)] := by
  have hcode : e.cursor.code < 256 := by cases e.cursor <;> simp [Cursor.code]
  have hlate' : e.late.length < 256 := by omega
  simp [Laid, cursorPart, field_be_mod, field_be_behind, Nat.mod_eq_of_lt, hlate', hcode]

theorem waitingPart_laid {s : State} (hin : s.lki.inbound.length ≤ 32) (hreplies : s.lki.replies.length ≤ 9)
    (hrecords : s.ntq.records.length ≤ 32) (hcredit : s.lki.creditLast ≤ 15) (hlost : s.ntq.lost ≤ 4294967295) :
    Laid (waitingPart s) [(0, 1, s.lki.inbound.length - 1), (1, 1, s.lki.replies.length), (2, 1, s.lki.creditLast),
      (3, 1, s.ntq.records.length), (4, 4, s.ntq.lost), (8, 1, s.rqh.deferred.isSome.toNat),
      (9, 1, (s.rqh.deferred.getD 0).toNat)] := by
  have hin' : s.lki.inbound.length - 1 < 256 := by omega
  have hreplies' : s.lki.replies.length < 256 := by omega
  have hcredit' : s.lki.creditLast < 256 := by omega
  have hrecords' : s.ntq.records.length < 256 := by omega
  have hlost' : s.ntq.lost < 4294967296 := by omega
  have hsome : s.rqh.deferred.isSome.toNat < 256 := Nat.lt_of_le_of_lt (Bool.toNat_le _) (by decide)
  have htag (x : Byte) : field (be 1 x.toNat) 0 1 = x.toNat := field_word x 1 (by decide)
  simp [Laid, waitingPart, field_be_mod, field_be_behind, Nat.mod_eq_of_lt, hin', hreplies', hcredit', hrecords', hlost',
    hsome, htag]

theorem labelLaid_of_eq {body front rest : List Byte} {x : Option Label} (h : body = front ++ (optLabelBytes x ++ rest))
    {off : Nat} (hoff : front.length = off) : LabelLaid body off x := by
  rw [h, ← hoff]
  exact optLabelBytes_laid front rest x

/-- The three labels of a run, in front of the slots and the pool. -/
theorem runLabels_laid (s : State) :
    LabelLaid (bufferQueryBody s) 1 s.alb.start ∧ LabelLaid (bufferQueryBody s) 8 s.alb.base ∧
      LabelLaid (bufferQueryBody s) 15 s.alb.frontier := by
  have hbody := bufferQueryBody_eq s
  simp only [runPart, List.append_assoc] at hbody
  exact ⟨labelLaid_of_eq (front := be 1 s.alb.runState.code) hbody (by simp),
    labelLaid_of_eq (front := be 1 s.alb.runState.code ++ optLabelBytes s.alb.start)
      (by rw [hbody]; simp only [List.append_assoc]; rfl) (by simp),
    labelLaid_of_eq (front := be 1 s.alb.runState.code ++ (optLabelBytes s.alb.start ++ optLabelBytes s.alb.base))
      (by rw [hbody]; simp only [List.append_assoc]; rfl) (by simp)⟩

/-- An optional label that stands in a body, as its bytes are read. -/
theorem labelLaid_read {body : List Byte} {off : Nat} {x : Option Label} (h : LabelLaid body off x)
    (hindex : ∀ l, x = some l → l.index < 256) :
    (x = none → field body off 7 = 0) ∧
      ∀ l, x = some l → field body off 1 = 1 ∧ field body (off + 1) 4 = l.second.label.toNat ∧
        field body (off + 5) 1 = l.second.inserted.toNat ∧ field body (off + 6) 1 = l.index := by
  cases x with
  | none => exact ⟨fun _ => h, by simp⟩
  | some y =>
    refine ⟨by simp, ?_⟩
    rintro l ⟨⟩
    simpa [LabelLaid, Laid, Nat.mod_eq_of_lt (hindex y rfl)] using h

theorem label_laid {l : Label} (hindex : l.index < 256) (rest : List Byte) :
    Laid (l.bytes ++ rest) [(0, 4, l.second.label.toNat), (4, 1, l.second.inserted.toNat), (5, 1, l.index)] := by
  have hlabel : l.second.label.toNat < 4294967296 := l.second.label.isLt
  have hinserted : l.second.inserted.toNat < 256 := Nat.lt_of_le_of_lt (Bool.toNat_le _) (by decide)
  simp [Laid, Label.bytes, field_be_mod, field_be_behind, Nat.mod_eq_of_lt, hlabel, hinserted, hindex]

/-- The label of the cursor in the body, two bytes behind the late cells and the cursor's code. -/
theorem field_cursorLabel (s : State) (off len : Nat) :
    field (bufferQueryBody s) (70 + off) len =
      field (s.sem.cursor.labelBytes ++ ((linkCounts s).flatMap (be 4) ++ waitingPart s)) off len := by
  rw [show 70 + off = 68 + (2 + off) by omega, field_afterSetCounts, cursorPart]
  simp only [List.append_assoc]
  rw [field_be_behind (by omega), field_be_behind (by omega)]
  congr 1
  omega

theorem cursorLabel_idle {s : State} (h : s.sem.cursor = .idle) : field (bufferQueryBody s) 70 6 = 0 := by
  refine (field_cursorLabel s 0 6).trans ?_
  rw [h]
  exact field_be 6 0 _ (by decide)

theorem cursorLabel_laid {s : State} {p : Nat} {l : Label} (h : s.sem.cursor = .offered p l ∨ s.sem.cursor = .sending p l)
    (hindex : l.index < 256) :
    Laid (bufferQueryBody s) [(70, 4, l.second.label.toNat), (74, 1, l.second.inserted.toNat), (75, 1, l.index)] := by
  have hbytes : s.sem.cursor.labelBytes = l.bytes := by rcases h with h | h <;> rw [h] <;> rfl
  have hlaid := label_laid hindex ((linkCounts s).flatMap (be 4) ++ waitingPart s)
  simpa [Laid, ← field_cursorLabel, ← hbytes] using hlaid

/-! ### BUFFER_QUERY (08 R180, R181) -/

/-- What BUFFER_QUERY with a valid option leaves, its reply apart. -/
def queried (o : Nat) (s : State) : State := if o = 1 then clearPartCounts (armMarks s) else armMarks s

/-- BUFFER_QUERY on its option as the request's one byte gives it back. -/
theorem bufferQuery_sent {o : Nat} (ho : o < 256) (s : State) :
    ofLength 1 (be 1 o) s (bufferQuery (field (be 1 o) 0 1) s) = bufferQuery o s := by
  rw [ofLength_eq (be_length 1 o), field_be_self ho]

theorem bufferQuery_bad {o : Nat} (ho : 1 < o) (s : State) : bufferQuery o s = (s, .refuse .badValue 1) := if_pos ho

theorem bufferQuery_good {o : Nat} (ho : o ≤ 1) (s : State) : bufferQuery o s = (queried o s, .ok (bufferQueryBody s)) :=
  if_neg (Nat.not_lt.mpr ho)

/-- The body of BUFFER_QUERY's reply but for its labels and counters. -/
theorem bufferQueryBody_laid {s : State} (hpool : s.alb.PoolSound) (hlow : s.alb.lowWater ≤ 8192)
    (hlate : s.sem.late.length ≤ 16) (hin : s.lki.inbound.length ≤ 32) (hreplies : s.lki.replies.length ≤ 9)
    (hrecords : s.ntq.records.length ≤ 32) (hcredit : s.lki.creditLast ≤ 15) (hlost : s.ntq.lost ≤ 4294967295) :
    Laid (bufferQueryBody s) [(0, 1, s.alb.runState.code), (22, 1, s.alb.openCount),
      (23, 1, s.alb.slots.countP Slot.isSealed), (24, 2, s.alb.free.length), (26, 2, s.alb.lowWater),
      (68, 1, s.sem.late.length), (69, 1, s.sem.cursor.code), (120, 1, s.lki.inbound.length - 1),
      (121, 1, s.lki.replies.length), (122, 1, s.lki.creditLast), (123, 1, s.ntq.records.length), (124, 4, s.ntq.lost),
      (128, 1, s.rqh.deferred.isSome.toNat), (129, 1, (s.rqh.deferred.getD 0).toNat)] := by
  have hrun := runPart_laid hpool hlow
  have hcursor := cursorPart_laid hlate
  have hwaiting := waitingPart_laid hin hreplies hrecords hcredit hlost
  have hbehind {off len : Nat} (h : off + len ≤ 8) :
      field (bufferQueryBody s) (68 + off) len = field (cursorPart s.sem) off len := by
    rw [field_afterSetCounts, field_within _ _ _ _ (by rwa [cursorPart_length])]
  simp only [Laid, List.forall_mem_cons, List.not_mem_nil, false_implies, implies_true, and_true] at hrun hcursor hwaiting ⊢
  simp only [← field_runPart s, ← hbehind, ← field_waitingPart, Nat.reduceAdd, Nat.reduceLeDiff] at hrun hcursor hwaiting
  obtain ⟨hstate, hopened, hsealed, hfree, hmark⟩ := hrun
  obtain ⟨hcells, hcode⟩ := hcursor
  exact ⟨hstate, hopened, hsealed, hfree, hmark, hcells, hcode, hwaiting⟩

/-- Settles O53: the body is read part by part, and what the query leaves is its two branches written out. -/
theorem bufferQueryReads : Obligations.BufferQueryReads := by
  unfold Obligations.BufferQueryReads
  intro s tag o ho h
  refine ⟨fun hbad => congrArg Host.Outcome.next
    (serve_refuse h (by decide) ((bufferQuery_sent ho s).trans (bufferQuery_bad hbad s))), ?_⟩
  intro sets link hgood hpool hin hreplies hrecords hlate hcredit hsets hlink hcounts hlow hindex
  have hsets' : sets = setCounts s := hsets
  have hlink' : link = linkCounts s := hlink
  have hlost : s.ntq.lost ≤ 4294967295 := hcounts _ (by simp)
  obtain ⟨hstart, hbase, hfrontier⟩ := runLabels_laid s
  refine ⟨queried o s, bufferQueryBody s, congrArg Host.Outcome.next
    (serve_ok h (by decide) ((bufferQuery_sent ho s).trans (bufferQuery_good hgood s))), bufferQueryBody_length s,
    bufferQueryBody_laid hpool hlow hlate hin hreplies hrecords hcredit hlost, ?_, cursorLabel_idle, fun p l hcursor => ?_,
    fun i v hi => ?_, fun i v hi => ?_, ?_⟩
  · rintro off x (⟨rfl, rfl⟩ | ⟨rfl, rfl⟩ | ⟨rfl, rfl⟩)
    · exact labelLaid_read hstart fun l hl => hindex l (.inl hl)
    · exact labelLaid_read hbase fun l hl => hindex l (.inr (.inl hl))
    · exact labelLaid_read hfrontier fun l hl => hindex l (.inr (.inr (.inl hl)))
  · simpa [Laid] using cursorLabel_laid hcursor (hindex l (.inr (.inr (.inr ⟨p, hcursor⟩))))
  · rw [field_afterRun, ← hsets']
    have hv := List.mem_of_getElem? hi
    exact field_words hi (hcounts v (by simp [hv])) _
  · rw [field_afterCursor, ← hlink']
    have hv := List.mem_of_getElem? hi
    exact field_words hi (hcounts v (by simp [hv])) _
  · obtain rfl | rfl : o = 0 ∨ o = 1 := by omega
    · exact ⟨rfl, rfl, rfl, rfl, rfl, rfl, rfl, rfl, rfl, rfl, rfl, fun _ => ⟨rfl, rfl, rfl, rfl⟩, by simp⟩
    · exact ⟨rfl, rfl, rfl, rfl, rfl, rfl, rfl, rfl, rfl, rfl, rfl, by simp, fun _ => ⟨rfl, rfl⟩⟩

end Sys2Proof.Machine.Replies

/-! PROOF. The configuration under every command (08 R167, R168): only CONFIGURE and the resets write it. -/

namespace Sys2Proof.Machine.Configured

/-- An event that happens when it is due. -/
theorem ite_rqh {b : Bool} {s : State} {f : State → State} (hf : ∀ t, (f t).rqh = t.rqh) :
    (if b then f s else s).rqh = s.rqh := by
  split
  · exact hf s
  · rfl

/-! ### The time base (01) -/

theorem endStartup_rqh (s : State) : (endStartup s).rqh = s.rqh := by
  fun_cases endStartup s <;> rfl

@[simp] theorem commonCycle_rqh (s : State) : (commonCycle s).rqh = s.rqh := txCycle_rqh _

@[simp] theorem applyLeap_rqh (x : Second) (s : State) : (applyLeap x s).rqh = s.rqh := by
  fun_cases applyLeap x s <;> simp

@[simp] theorem enterState_rqh (x : TimeState) (s : State) : (enterState x s).rqh = s.rqh := post_rqh _ _

@[simp] theorem rollover_rqh (m : Bool) (s : State) : (rollover m s).rqh = s.rqh := applyLeap_rqh _ _

@[simp] theorem freeAtLimit_rqh (s : State) : (freeAtLimit s).rqh = s.rqh := by
  fun_cases freeAtLimit s <;> simp

@[simp] theorem deliverTick_rqh (s : State) : (deliverTick s).rqh = s.rqh :=
  deliverTick_frame (f := State.rqh) (fun _ _ _ => rfl) (fun _ _ => rfl) s

@[simp] theorem localTimeChanged_rqh (o : Option Instant) (s : State) : (localTimeChanged o s).rqh = s.rqh :=
  localTimeChanged_frame (f := State.rqh) (fun _ _ _ => rfl) (fun _ _ => rfl) o s

theorem rolloverCycle_rqh (s : State) : (rolloverCycle s).rqh = s.rqh := by simp [rolloverCycle]

@[simp] theorem acceptEdge_rqh (d : Int) (s : State) : (acceptEdge d s).rqh = s.rqh := by
  unfold acceptEdge
  dsimp only
  split <;> simp

@[simp] theorem phaseStep_rqh (s : State) : (phaseStep s).rqh = s.rqh := by
  unfold phaseStep
  dsimp only
  split <;> split <;> simp

@[simp] theorem timedEdge_rqh (s : State) : (timedEdge s).rqh = s.rqh := by
  unfold timedEdge rejectEdge
  dsimp only
  split
  · simp
  · split
    · simp
    · split <;> simp

@[simp] theorem acquiringEdge_rqh (s : State) : (acquiringEdge s).rqh = s.rqh := by
  unfold acquiringEdge
  split
  · rfl
  · dsimp only
    split <;> simp [lockAt]

theorem takeEdge_rqh (r : Bool) (s : State) : (takeEdge r s).rqh = s.rqh := by
  unfold takeEdge
  dsimp only
  split
  · rfl
  · split <;> simp [unsetEdge]

theorem countMiss_rqh (s : State) : (countMiss s).rqh = s.rqh := by
  unfold countMiss
  dsimp only
  split <;> simp

/-! ### The receiver (07) -/

@[simp] theorem offerInbound_rqh (e : Inbound) (cls : Byte) (counts : Bool) (s : State) :
    (offerInbound e cls counts s).rqh = s.rqh := by
  unfold offerInbound
  split
  · rfl
  · dsimp only
    split <;> simp

@[simp] theorem huntByte_rqh (b : Byte) (s : State) : (huntByte b s).rqh = s.rqh := by
  fun_cases huntByte b s <;> rfl

theorem goodHeader_rqh (cls tag : Byte) (n : Nat) (s : State) : (goodHeader cls tag n s).rqh = s.rqh := by
  fun_cases goodHeader cls tag n s <;> rfl

@[simp] theorem headerDone_rqh (h : List Byte) (s : State) : (headerDone h s).rqh = s.rqh := by
  unfold headerDone
  dsimp only
  split
  · exact goodHeader_rqh _ _ _ s
  · split <;> simp

@[simp] theorem messageDone_rqh (cls tag : Byte) (b : List Byte) (s : State) : (messageDone cls tag b s).rqh = s.rqh := by
  unfold messageDone
  dsimp only
  split <;> simp

@[simp] theorem skipDone_rqh (note : Option Byte) (s : State) : (skipDone note s).rqh = s.rqh := by
  unfold skipDone
  dsimp only
  split
  · split <;> simp
  · split <;> simp

theorem rxByte_rqh (b : Byte) (s : State) : (rxByte b s).rqh = s.rqh := by
  unfold rxByte
  dsimp only
  split
  · rfl
  · split
    case h_1 => simp
    all_goals split <;> simp

theorem rxBit_rqh (s : State) (b : Bool) : (rxBit s b).rqh = s.rqh := by
  unfold rxBit
  dsimp only
  split
  · rfl
  · exact rxByte_rqh _ _

theorem rxBits_rqh (line : List Bool) (s : State) : (line.foldl rxBit s).rqh = s.rqh := by
  induction line generalizing s with
  | nil => rfl
  | cons b line ih => exact (ih _).trans (rxBit_rqh s b)

theorem truncate_rqh (s : State) : (truncate s).rqh = s.rqh := by
  unfold truncate
  dsimp only
  split <;> simp

/-! ### Field frames (02) -/

theorem examineFrame_rqh (k : Reading) (s : State) : (examineFrame k s).rqh = s.rqh := by
  unfold examineFrame freeIfDone
  have hcheck (tag : Byte) (b : List Byte) (t : State) : (checkFrame k tag b t).rqh = t.rqh :=
    checkFrame_frame (f := State.rqh) (fun _ _ _ _ _ _ => rfl) k tag b t
  split
  · split <;> simp [hcheck]
  · rfl

theorem finishFrame_rqh (h : FrameInHand) (x : Snapped) (s : State) : (finishFrame h x s).rqh = s.rqh := by
  fun_cases finishFrame h x s
  · exact deliver_frame (f := State.rqh) (fun _ _ _ _ _ => rfl) h x _
  · rfl

theorem advanceFrame_rqh (s : State) : (advanceFrame s).rqh = s.rqh := by
  unfold advanceFrame
  split
  · unfold readFrame
    split <;> rfl
  · exact examineFrame_rqh _ s
  · exact finishFrame_rqh _ _ s

theorem goOn_rqh (s : State) : (goOn s).rqh = s.rqh := by
  unfold goOn
  split
  · exact advanceFrame_rqh s
  · rfl

theorem takeFrame_rqh (s : State) : (takeFrame s).rqh = s.rqh :=
  (goOn_rqh _).trans ((goOn_rqh _).trans (advanceFrame_rqh s))

/-! ### The drain and the end of an emission (05 R91, R92, R115) -/

/-- The end of a drain lets go of the deferred reply, in the Request Handler nothing else. -/
theorem endDrain_config (s : State) : (endDrain s).rqh.config = s.rqh.config := by
  fun_cases endDrain s <;> rfl

theorem drainOn_config (n : Nat) (s : State) : (drainOn n s).rqh.config = s.rqh.config := by
  induction n generalizing s with
  | zero => rfl
  | succ n ih =>
    unfold drainOn
    split
    · split
      · exact ih _
      · rw [offerBase_frame (f := State.rqh) fun _ _ _ => rfl]
      · rfl
    · exact endDrain_config s

theorem stopRun_config (tag : Byte) (s : State) : (stopRun tag s).rqh.config = s.rqh.config := by
  unfold stopRun
  rw [drainOn_config, eachSlot_frame (f := State.rqh) (sealSlot_frame (fun _ _ _ => rfl) .drain)]

theorem freeBaseSlot_rqh (s : State) : (freeBaseSlot s).rqh = s.rqh :=
  freeBaseSlot_frame (f := State.rqh) (fun _ _ _ => rfl) s

theorem endEmission_config (s : State) : (endEmission s).rqh.config = s.rqh.config := by
  have hbuffer : IgnoresBuffer State.rqh := fun _ _ _ => rfl
  unfold endEmission bufferEmissionEnd
  dsimp only
  split
  · rw [freeBaseSlot_rqh]
  · rw [offerBase_frame hbuffer, exposeLabel_frame hbuffer, advanceBase_rqh, freeBaseSlot_rqh]
  · rw [drainOn_config, advanceBase_rqh, freeBaseSlot_rqh]

/-! ### Messages (06, 07, 09) -/

theorem endMessage_config {f : State → State} (hf : ∀ t, (f t).rqh.config = t.rqh.config) (cls : OutClass) (s : State) :
    (endMessage cls f s).rqh.config = s.rqh.config := by
  unfold endMessage
  split
  · rw [flowAtEnd_rqh, hf, State.txIdle_rqh]
  · rfl

theorem endReply_config (s : State) : (endReply s).rqh.config = s.rqh.config := by
  unfold endReply
  refine endMessage_config (fun t => ?_) _ s
  split <;> rfl

theorem startReply_rqh (s : State) : (startReply s).rqh = s.rqh := by
  fun_cases startReply s <;> simp

theorem startNotice_rqh (s : State) : (startNotice s).rqh = s.rqh := by
  fun_cases startNotice s <;> simp

theorem startFlow_rqh (s : State) : (startFlow s).rqh = s.rqh := by
  fun_cases startFlow s <;> simp

theorem startLate_rqh (s : State) : (startLate s).rqh = s.rqh := by
  fun_cases startLate s <;> simp

/-- Fixing the entries of a SET changes stream records alone. -/
theorem fixEntries_rqh (es : List SetEntry) (s : State) :
    (es.foldl (fun u e => u.modStream e.stream e.fix) s).rqh = s.rqh := by
  induction es generalizing s with
  | nil => rfl
  | cons e es ih => exact ih _

theorem startSet_rqh (s : State) : (startSet s).rqh = s.rqh := by
  unfold startSet
  split
  · split
    · split <;> simp [fixEntries_rqh]
    · rfl
    · rfl
  · rfl

theorem raiseHrdy_rqh (s : State) : (raiseHrdy s).rqh = s.rqh := by
  unfold raiseHrdy
  dsimp only
  split
  · split <;> simp
  · rfl

/-! ### Requests (08) -/

theorem answer_rqh (s : State) (tag k : Byte) (a : Answer) : (s.answer tag k a).rqh = s.rqh := by
  cases a <;> rfl

/-- A request leaves the configuration as its body does. -/
theorem serve_config {body : Byte → List Byte → State → State × Answer}
    (hbody : ∀ tag p t, (body tag p t).1.rqh.config = t.rqh.config) (k : Byte) (s : State) :
    (serve k body s).rqh.config = s.rqh.config := by
  rcases serve_cases k body s with h | ⟨tag, p, -, -, h⟩
  · rw [h]
  · rw [h, State.freeHead_rqh, answer_rqh, hbody]

/-- What holds of the state and of the body's effects holds whatever the length. -/
theorem ofLength_of {P : State → Prop} {n : Nat} {p : List Byte} {s : State} {b : State × Answer} (hs : P s)
    (hb : P b.1) : P (ofLength n p s b).1 := by
  unfold ofLength
  split
  · exact hb
  · exact hs

theorem ofLength_config {n : Nat} {p : List Byte} {s : State} {b : State × Answer} (hb : b.1.rqh.config = s.rqh.config) :
    (ofLength n p s b).1.rqh.config = s.rqh.config :=
  ofLength_of (P := fun t => t.rqh.config = s.rqh.config) rfl hb

/-- A request of one length. -/
theorem serve_ofLength_config {n : Nat} {body : Byte → List Byte → State → State × Answer}
    (hbody : ∀ tag p t, (body tag p t).1.rqh.config = t.rqh.config) (k : Byte) (s : State) :
    (serve k (fun tag p t => ofLength n p t (body tag p t)) s).rqh.config = s.rqh.config :=
  serve_config (fun tag p t => ofLength_config (hbody tag p t)) k s

theorem setIdentity_config (v : Nat) (s : State) : (setIdentity v s).1.rqh.config = s.rqh.config := by
  fun_cases setIdentity v s <;> rfl

theorem timePolicy_rqh (code w miss : Nat) (s : State) : (timePolicy code w miss s).1.rqh = s.rqh := by
  fun_cases timePolicy code w miss s <;> rfl

theorem enterAcquiring_rqh (x : SecondLabel) (s : State) : (enterAcquiring x s).rqh = s.rqh := post_rqh _ _

theorem timeLabel_rqh (x : SecondLabel) (s : State) : (timeLabel x s).1.rqh = s.rqh := by
  fun_cases timeLabel x s
  case case2 | case5 | case9 | case13 => exact enterAcquiring_rqh x _
  all_goals rfl

theorem leapSchedule_rqh (x : SecondLabel) (code : Nat) (s : State) : (leapSchedule x code s).1.rqh = s.rqh := by
  fun_cases leapSchedule x code s <;> rfl

theorem streamDefine_rqh (q : DefineFields) (s : State) : (streamDefine q s).1.rqh = s.rqh := by
  fun_cases streamDefine q s <;> rfl

theorem defineRequest_config (p : List Byte) (s : State) : (defineRequest p s).1.rqh.config = s.rqh.config := by
  have hdefine (n : Nat) : (ofLength n p s (streamDefine (readDefine p) s)).1.rqh.config = s.rqh.config :=
    ofLength_config (congrArg Rqh.config (streamDefine_rqh _ s))
  fun_cases defineRequest p s
  · rfl
  · exact hdefine 10
  · exact hdefine 17
  · rfl

theorem changeState_rqh (n : Nat) (x : StreamState) (c : StreamCause) (s : State) : (changeState n x c s).rqh = s.rqh :=
  changeState_frame (f := State.rqh) (fun _ _ _ _ _ => rfl) n x c s

theorem streamEnable_rqh (n : Nat) (s : State) : (streamEnable n s).1.rqh = s.rqh := by
  fun_cases streamEnable n s
  case case4 => exact changeState_rqh _ _ _ _
  all_goals rfl

theorem disableStream_rqh (n : Nat) (s : State) : (disableStream n s).rqh = s.rqh := by
  unfold disableStream
  rw [disableReport_frame (f := State.rqh) (fun _ _ _ => rfl), changeState_rqh, State.modStream_rqh]

theorem streamDisable_rqh (n : Nat) (s : State) : (streamDisable n s).1.rqh = s.rqh := by
  fun_cases streamDisable n s
  case case3 => exact disableStream_rqh n s
  all_goals rfl

theorem streamQuery_rqh (n o : Nat) (s : State) : (streamQuery n o s).1.rqh = s.rqh := by
  fun_cases streamQuery n o s <;> rfl

theorem alignStart_rqh (s : State) : (alignStart s).1.rqh = s.rqh := by
  fun_cases alignStart s <;> rfl

theorem alignStop_config (tag : Byte) (s : State) : (alignStop tag s).1.rqh.config = s.rqh.config := by
  fun_cases alignStop tag s
  case case2 =>
    dsimp only
    exact stopRun_config tag s
  all_goals rfl

theorem bufferQuery_rqh (o : Nat) (s : State) : (bufferQuery o s).1.rqh = s.rqh := by
  unfold bufferQuery
  split
  · rfl
  · dsimp only
    split <;> rfl

theorem answerLengthNote_rqh (s : State) : (answerLengthNote s).rqh = s.rqh := by
  fun_cases answerLengthNote s <;> rfl

theorem answerEmpty_rqh (s : State) : (answerEmpty s).rqh = s.rqh := by
  fun_cases answerEmpty s <;> rfl

theorem answerBadKind_rqh (s : State) : (answerBadKind s).rqh = s.rqh := by
  fun_cases answerBadKind s <;> rfl

/-! ### CONFIGURE and the resets (08 R167, R168, R182) -/

/-- CONFIGURE changes nothing unless the buffer is in STANDBY, and never the buffer. -/
theorem configure_cases (rate mode late : Nat) (q : ConfigureFields) (s : State) :
    (configure rate mode late q s).1 = s ∨
      s.alb.runState = .standby ∧ (configure rate mode late q s).1.alb = s.alb := by
  fun_cases configure rate mode late q s
  case case6 hstandby _ _ _ _ => exact .inr ⟨hstandby, rfl⟩
  all_goals exact .inl rfl

theorem answer_freeHead_alb (s : State) (tag k : Byte) (a : Answer) : (s.answer tag k a).freeHead.alb = s.alb := by
  cases a <;> rfl

/-- A CONFIGURE that writes the configuration finds the buffer in STANDBY and leaves it there. -/
theorem exec_configure_standby {s t : State} (h : exec .configure s = .next t) (hne : t.rqh.config ≠ s.rqh.config) :
    t.alb.runState = .standby ∧ s.alb.runState = .standby := by
  obtain rfl := Host.Outcome.next.inj h
  rcases serve_cases 0x03 (fun _ p t => ofLength 15 p t
    (configure (field p 0 1) (field p 1 1) (field p 14 1) (readConfigure p) t)) s with hnone | ⟨tag, p, -, -, hserved⟩
  · exact absurd (congrArg (·.rqh.config) hnone) hne
  · rw [hserved, State.freeHead_rqh, answer_rqh] at hne
    rw [hserved, answer_freeHead_alb]
    have hbody := ofLength_of (P := fun t => t = s ∨ s.alb.runState = .standby ∧ t.alb = s.alb) (n := 15) (p := p)
      (.inl rfl) (configure_cases (field p 0 1) (field p 1 1) (field p 14 1) (readConfigure p) s)
    rcases hbody with hsame | ⟨hstandby, halb⟩
    · exact absurd (congrArg (·.rqh.config) hsame) hne
    · exact ⟨(congrArg Alb.runState halb).trans hstandby, hstandby⟩

theorem resetBuffer_runState (s : State) : (resetBuffer s).runState = .standby := by
  unfold resetBuffer
  split <;> rfl

/-- A SOFT_RESET that writes the configuration leaves the buffer in STANDBY. -/
theorem exec_softReset_standby {s t : State} (h : exec .softReset s = .next t) (hne : t.rqh.config ≠ s.rqh.config) :
    t.alb.runState = .standby := by
  obtain rfl : takeSoftReset s = t := Host.Outcome.next.inj h
  revert hne
  fun_cases takeSoftReset s
  · exact fun hne => absurd rfl hne
  · exact fun _ => resetBuffer_runState _
  · exact fun hne => absurd rfl hne

/-- The commands that may write the configuration. -/
def Writes (c : Instr) : Prop := c = .configure ∨ c = .softReset ∨ ∃ a b x y z, c = .pinReset a b x y z

/-- Every other command leaves the configuration as it was. -/
theorem exec_config {c : Instr} (hc : ¬ Writes c) (s : State) :
    ∃ t, exec c s = .next t ∧ t.rqh.config = s.rqh.config := by
  have keeps {t u : State} (h : t.rqh = u.rqh) : t.rqh.config = u.rqh.config := congrArg Rqh.config h
  cases c with
  | pinReset a b x y z => exact absurd (.inr (.inr ⟨a, b, x, y, z, rfl⟩)) hc
  | softReset => exact absurd (.inr (.inl rfl)) hc
  | configure => exact absurd (.inl rfl) hc
  | startupEnd => exact ⟨_, rfl, keeps (endStartup_rqh s)⟩
  | ppsEdge r => exact ⟨_, rfl, keeps (takeEdge_rqh r s)⟩
  | secondRollover => exact ⟨_, rfl, keeps (ite_rqh rolloverCycle_rqh)⟩
  | ppsMissed => exact ⟨_, rfl, keeps (ite_rqh countMiss_rqh)⟩
  | outputGridTick => exact ⟨_, rfl, keeps (deliverTick_rqh s)⟩
  | deadlineArrival => exact ⟨_, rfl, keeps (sealDue_frame (f := State.rqh) (fun _ _ _ => rfl) s)⟩
  | silenceExpiry n p =>
    exact ⟨_, rfl, keeps (ite_rqh (expireSilence_frame (f := State.rqh) (fun _ _ _ _ _ => rfl) n p))⟩
  | receiveMessage line => exact ⟨_, rfl, keeps (rxBits_rqh line s)⟩
  | truncated => exact ⟨_, rfl, keeps (ite_rqh truncate_rqh)⟩
  | fieldFrame => exact ⟨_, rfl, keeps (takeFrame_rqh s)⟩
  | lengthNoteReply => exact ⟨_, rfl, keeps (answerLengthNote_rqh s)⟩
  | emptyPayloadRequest => exact ⟨_, rfl, keeps (answerEmpty_rqh s)⟩
  | badKind => exact ⟨_, rfl, keeps (answerBadKind_rqh s)⟩
  | identify => exact ⟨_, rfl, serve_ofLength_config (fun _ _ _ => rfl) _ s⟩
  | setIdentity => exact ⟨_, rfl, serve_ofLength_config (fun _ _ => setIdentity_config _) _ s⟩
  | timePolicy => exact ⟨_, rfl, serve_ofLength_config (fun _ _ t => keeps (timePolicy_rqh _ _ _ t)) _ s⟩
  | timeLabel => exact ⟨_, rfl, serve_ofLength_config (fun _ _ t => keeps (timeLabel_rqh _ t)) _ s⟩
  | leapSchedule => exact ⟨_, rfl, serve_ofLength_config (fun _ _ t => keeps (leapSchedule_rqh _ _ t)) _ s⟩
  | timeQuery => exact ⟨_, rfl, serve_ofLength_config (fun _ _ _ => rfl) _ s⟩
  | streamDefine => exact ⟨_, rfl, serve_config (fun _ => defineRequest_config) _ s⟩
  | streamEnable => exact ⟨_, rfl, serve_ofLength_config (fun _ _ t => keeps (streamEnable_rqh _ t)) _ s⟩
  | streamDisable => exact ⟨_, rfl, serve_ofLength_config (fun _ _ t => keeps (streamDisable_rqh _ t)) _ s⟩
  | streamQuery => exact ⟨_, rfl, serve_ofLength_config (fun _ _ t => keeps (streamQuery_rqh _ _ t)) _ s⟩
  | alignStart => exact ⟨_, rfl, serve_ofLength_config (fun _ _ t => keeps (alignStart_rqh t)) _ s⟩
  | alignStop => exact ⟨_, rfl, serve_ofLength_config (fun tag _ => alignStop_config tag) _ s⟩
  | bufferQuery => exact ⟨_, rfl, serve_ofLength_config (fun _ _ t => keeps (bufferQuery_rqh _ t)) _ s⟩
  | replyStart => exact ⟨_, rfl, keeps (startReply_rqh s)⟩
  | replyEnd => exact ⟨_, rfl, endReply_config s⟩
  | noticeStart => exact ⟨_, rfl, keeps (startNotice_rqh s)⟩
  | noticeEnd => exact ⟨_, rfl, endMessage_config (fun _ => by rfl) .notice s⟩
  | flowStart => exact ⟨_, rfl, keeps (startFlow_rqh s)⟩
  | flowEnd => exact ⟨_, rfl, endMessage_config (f := id) (fun _ => rfl) .flow s⟩
  | setStart => exact ⟨_, rfl, keeps (startSet_rqh s)⟩
  | setEmissionEnd => exact ⟨_, rfl, endMessage_config endEmission_config _ s⟩
  | lateStart => exact ⟨_, rfl, keeps (startLate_rqh s)⟩
  | lateEnd => exact ⟨_, rfl, endMessage_config (f := endLate) (fun _ => rfl) .late s⟩
  | hrdyFall => exact ⟨_, rfl, rfl⟩
  | hrdyRise => exact ⟨_, rfl, keeps (raiseHrdy_rqh s)⟩

/-- Settles O4: a command other than CONFIGURE and the resets keeps the configuration; CONFIGURE writes it in STANDBY
alone, and the resets leave the buffer there. -/
theorem configurationFixedInRun : Obligations.ConfigurationFixedInRun := by
  unfold Obligations.ConfigurationFixedInRun
  intro c s t h hne
  by_cases hc : Writes c
  · rcases hc with rfl | rfl | ⟨a, b, x, y, z, rfl⟩
    · obtain ⟨hafter, hbefore⟩ := exec_configure_standby h hne
      exact ⟨hafter, .inl ⟨rfl, hbefore⟩⟩
    · exact ⟨exec_softReset_standby h hne, .inr (.inl rfl)⟩
    · obtain rfl := Host.Outcome.next.inj h
      exact ⟨rfl, .inr (.inr ⟨a, b, x, y, z, rfl⟩)⟩
  · obtain ⟨u, hu, hconfig⟩ := exec_config hc s
    obtain rfl := Host.Outcome.next.inj (hu.symm.trans h)
    exact absurd hconfig hne

end Sys2Proof.Machine.Configured
